-- ==== Sys2Proof/Word.lean ====
section
/-!
DEFINITION. The data widths of the register interface (spec/00_scope.md R8): every register and every
data value is an unsigned 8-bit quantity, bit 0 the least significant.
-/

namespace Sys2Proof

/-- One byte of the register interface (R8, R19: "all registers are exactly 8 bits wide"). -/
abbrev Byte := BitVec 8

/-- A 32-bit unsigned count: K, REPEAT_COUNT, ATTEMPTS_PER_SEND (R13, R6). -/
abbrev Count := BitVec 32

/-- A duration in ticks: a non-negative integer, always finite (R6, R7(f), 92_eei_decisions D25). -/
abbrev Ticks := Nat

end Sys2Proof
end

