-- ==== Sys2Proof/Config.lean ====
section
/-!
DEFINITION. The static data of the block (spec/10_state.md R35): the names of the register and bitfield
model (R19 to R33), the implementation parameters (spec/00_scope.md R6), and the free values the spec
leaves open. The values of the example profile P0 stand in Sys2Proof/Machine/Profile.lean.
-/

namespace Sys2Proof

/-- The labels of the 39 modelled registers (R20 to R32), in ascending order of their default address
(R44). A label outside this list is outside the model (R33). -/
inductive Label where
  | opmode | datamodul | bitrateMsb | bitrateLsb | frfMsb | frfMid
  | frfLsb | paLevel | ocp | preambleMsb | preambleLsb | syncConfig
  | syncValue1 | syncValue2 | syncValue3 | syncValue4 | syncValue5 | syncValue6
  | syncValue7 | syncValue8 | packetConfig1 | payloadLength | fifoThresh | aesKey1
  | aesKey2 | aesKey3 | aesKey4 | aesKey5 | aesKey6 | aesKey7
  | aesKey8 | aesKey9 | aesKey10 | aesKey11 | aesKey12 | aesKey13
  | aesKey14 | aesKey15 | aesKey16
  deriving DecidableEq, Repr, Inhabited

/-- The names of bit fields. First those of the default LAYOUT (R20 to R32, R61), register by register in the
order of `Label` and by descending bit; the single field of a format N register is named after its label. Then
200 more, by number, for a LAYOUT with other names (R6, D4; log entry 31). -/
inductive FieldName where
  | sequencerOff | listenOn | listenAbort | mode | dataMode | modulationType
  | modulationShaping | bitRateMsb | bitRateLsb | frfMsb | frfMid | frfLsb
  | pa0On | pa1On | pa2On | outputPower | ocpOn | ocpTrim
  | preambleMsb | preambleLsb | syncOn | fifoFillCondition | syncSize | syncTol
  | syncValue1 | syncValue2 | syncValue3 | syncValue4 | syncValue5 | syncValue6
  | syncValue7 | syncValue8 | packetFormat | dcFree | crcOn | crcAutoClearOff
  | addressFiltering | payloadLength | txStartCondition | fifoThreshold | aesKey1 | aesKey2
  | aesKey3 | aesKey4 | aesKey5 | aesKey6 | aesKey7 | aesKey8
  | aesKey9 | aesKey10 | aesKey11 | aesKey12 | aesKey13 | aesKey14
  | aesKey15 | aesKey16
  | other (n : Fin 200)
  deriving DecidableEq, Repr, Inhabited

/-- The labels of the decode tables of R20 to R31 (their strings are the spec's own, D22; `text` in
Sys2Proof/Machine/Operands.lean spells them), and any other label a LAYOUT may give (R6, D4; log entry 31). -/
inductive ValueLabel where
  | sequencerOn | sequencerOff | off | on | zero | one
  | sleep | standby | frequencySynthesizer | tx | rx | packet
  | continuousWithBitSync | continuousWithoutBitSync | fsk | ook | reserved1 | reserved2
  | none | gaussianBt10 | gaussianBt05 | gaussianBt03 | filterFcutoffBr | filterFcutoff2Br
  | disabled | enabled | onSyncAddressInterrupt | whileConditionSet | fixedLength | variableLength
  | manchester | whitening | autoClearEnabled | autoClearDisabled | node | nodeOrBroadcast
  | fifoLevel | fifoNotEmpty
  | other (text : String)
  deriving DecidableEq, Repr, Inhabited

/-- The units of report attributes (R86). -/
inductive Measure where
  | bps | milliamp | bytes | hertz
  deriving DecidableEq, Repr

/-- The mode set of the document, the argument of SETMODE (R64, R69). -/
inductive Mode where
  | sleep | standby | rx | tx
  deriving DecidableEq, Repr

/-- The decode table of a field (R19; log entry 31): raw value to label, partial. -/
inductive DecodeTable where
  /-- no table: the field is a number (R80) -/
  | number
  /-- one table -/
  | fixed (rows : List (Nat × ValueLabel))
  /-- the table is chosen by the raw value of another field of the same byte (R21, R80) -/
  | chosenBy (field : FieldName) (tables : List (Nat × List (Nat × ValueLabel)))
      (otherwise : List (Nat × ValueLabel))
  deriving DecidableEq, Repr

/-- One named bit range of a register, `high` and `low` inclusive, with its decode table (R19). -/
structure FieldDef where
  name  : FieldName
  high  : Nat
  low   : Nat
  table : DecodeTable
  deriving DecidableEq, Repr

/-- ROUND_TIE: how an exact half is rounded (R6, R100, D10). -/
inductive RoundTie where
  | halfEven | halfUp
  deriving DecidableEq, Repr

/-- The implementation parameters of R6. `addr` and `layout` are indexed by `Label.code`. Plain data:
a claim quantifies over every value, or names one. -/
structure Params where
  /-- FXOSC_HZ -/
  fxoscHz          : Nat
  /-- BIT_RATE_BPS -/
  bitRateBps       : Nat
  /-- CARRIER_HZ, positive (R6). No rule but the general-knowledge formula of R92 reads it (log entry 17). -/
  carrierHz        : Nat
  /-- FRF_WORD -/
  frfWord          : BitVec 24
  /-- OUTPUT_POWER -/
  outputPower      : BitVec 5
  /-- PA_STAGE: (Pa0On, Pa1On, Pa2On), Pa0On the most significant -/
  paStage          : BitVec 3
  /-- OCP_TRIM_CFG -/
  ocpTrimCfg       : BitVec 4
  /-- FIFO_THRESHOLD -/
  fifoThreshold    : BitVec 7
  /-- SYNC_SIZE_FIELD -/
  syncSizeField    : BitVec 3
  /-- UNIT, one signal unit -/
  signalUnit       : List Byte
  /-- UNIT_REPEAT -/
  unitRepeat       : Nat
  /-- REPEAT_COUNT -/
  repeatCount      : Count
  /-- INTER_PACKET_DELAY -/
  interPacketDelay : Ticks
  /-- ATTEMPTS_PER_SEND -/
  attemptsPerSend  : Count
  /-- REQUIRE_ACK -/
  requireAck       : Bool
  /-- MAX_WAIT, finite by its type (R7(f)) -/
  maxWait          : Ticks
  /-- REGS_OF_INTEREST, modelled labels by its type (R7(g)); the list stands for the set of its members -/
  regsOfInterest   : List Label
  /-- ADDR: label to address -/
  addr             : Vector Byte 39
  /-- LAYOUT: the fields of each register, with their decode tables -/
  layout           : Vector (List FieldDef) 39
  /-- ROUND_TIE -/
  roundTie         : RoundTie
  /-- TRAILING_DELAY -/
  trailingDelay    : Bool
  /-- TICK, the real length of a tick. No rule reads it (D25); a natural number of microseconds is the model's choice
  of its type (log entry 34, DESIGN CHOICE). -/
  tickMicros       : Nat
  deriving DecidableEq, Repr

/-! The free values (spec/20_memory.md R52; log entries 4, 9, 13): constants without a body, so no
proof can see a value of them. -/

/-- The ok-or-fail part of the `n`-th answer of the environment, when State's `answers` holds none (R52, U15). -/
opaque Config.freeOk : Nat → Bool

/-- The byte part of the `n`-th answer of the environment, when State's `answers` holds none (R52, U15). -/
opaque Config.freeByte : Nat → Byte

/-- The byte the device holds at an address no write has reached, in the given epoch (R36, R197, U3, U8). -/
opaque Config.unknownByte : Nat → Nat → Byte

/-- The label a failed write to an address outside ADDR is reported under: the spec gives none (R33, R143). -/
opaque Config.unmodelledLabel : Nat → Label

end Sys2Proof
end

