-- ==== Sys2Proof/Syntax.lean ====
section
/-!
DEFINITION. The operation set of the block (spec/30_encoding.md R66, R68): one constructor per row of
spec/opcode_table.json, with the operands its rule gives it.
-/

namespace Sys2Proof

/-- The 37 operations. A register label and a field name arrive as one-byte codes (log entry 3), so
that a name outside the model can be given too (R82). -/
inductive Instr where
  /-- DECODE label, raw (R80) -/
  | decode (label raw : Byte)
  /-- FIELD_VALUE label, field, raw (R81) -/
  | fieldValue (label field raw : Byte)
  /-- FIELD_INSERT label, a mapping field name -> raw value (R83) -/
  | fieldInsert (label : Byte) (vals : List (Byte × BitVec 16))
  /-- ENCODE (R130) -/
  | encode
  /-- RUN, the host command; `diag` is bit 1 and `dry` bit 0 of its word (R67, R148) -/
  | run (diag dry : Bool)
  /-- APPLY (R91) -/
  | apply
  /-- INSPECT, a set of labels (R110): the members of the list -/
  | inspect (labels : List Byte)
  /-- CFG_FREQ, step 1 (R92) -/
  | cfgFreq
  /-- CFG_DATAMODUL, step 2 (R93) -/
  | cfgDatamodul
  /-- CFG_PACKET, step 3 (R94) -/
  | cfgPacket
  /-- CFG_PAYLEN, step 4 (R95) -/
  | cfgPaylen
  /-- CFG_FIFO, step 5 (R96) -/
  | cfgFifo
  /-- CFG_PREAMBLE_SYNC, step 6 (R97) -/
  | cfgPreambleSync
  /-- CFG_BITRATE, step 7 (R98) -/
  | cfgBitrate
  /-- CFG_PA_OCP, step 8 (R99) -/
  | cfgPaOcp
  /-- WR_FRF_MSB, entry 0 of CFGTABLE; f = FRF_WORD[23:16] (R68, R101) -/
  | wrFrfMsb (f : Byte)
  /-- WR_FRF_MID, entry 1; g = FRF_WORD[15:8] -/
  | wrFrfMid (g : Byte)
  /-- WR_FRF_LSB, entry 2; h = FRF_WORD[7:0] -/
  | wrFrfLsb (h : Byte)
  /-- WR_DATAMODUL, entry 3 -/
  | wrDatamodul
  /-- WR_PACKET_CONFIG1, entry 4 -/
  | wrPacketConfig1
  /-- WR_PAYLOAD_LENGTH, entry 5 -/
  | wrPayloadLength
  /-- WR_FIFO_THRESH, entry 6; t = FIFO_THRESHOLD -/
  | wrFifoThresh (t : BitVec 7)
  /-- WR_PREAMBLE_MSB, entry 7 -/
  | wrPreambleMsb
  /-- WR_PREAMBLE_LSB, entry 8 -/
  | wrPreambleLsb
  /-- WR_SYNC_CONFIG, entry 9; s = SYNC_SIZE_FIELD -/
  | wrSyncConfig (s : BitVec 3)
  /-- WR_BITRATE_MSB, entry 10; m = BRDIV[15:8] -/
  | wrBitrateMsb (m : Byte)
  /-- WR_BITRATE_LSB, entry 11; l = BRDIV[7:0] -/
  | wrBitrateLsb (l : Byte)
  /-- WR_PA_LEVEL, entry 12; a = PA_STAGE, p = OUTPUT_POWER -/
  | wrPaLevel (a : BitVec 3) (p : BitVec 5)
  /-- WR_OCP, entry 13; c = OCP_TRIM_CFG -/
  | wrOcp (c : BitVec 4)
  /-- ACQUIRE (R140) -/
  | acquire
  /-- RELEASE (R141) -/
  | release
  /-- RDREG address (R142) -/
  | rdreg (a : Byte)
  /-- WRREG address, value (R143) -/
  | wrreg (a v : Byte)
  /-- SETMODE mode (R144) -/
  | setmode (m : Mode)
  /-- WAITRDY duration (R145) -/
  | waitrdy (t : Ticks)
  /-- SEND payload, attempts, require_ack (R146) -/
  | send (payload : List Byte) (attempts : Count) (requireAck : Bool)
  /-- SLEEP duration (R147) -/
  | sleep (d : Ticks)
  deriving DecidableEq, Repr

/-- What may stand at the block's port: the host's two inputs (R67, R190), or an operation invoked by
its identifier (R66, R70), or a configuration word (R68). -/
inductive Request where
  /-- the host's command word, format H (R67) -/
  | command (w : Byte)
  /-- block reset (R190) -/
  | reset
  /-- a 16-bit configuration word, format W (R68) -/
  | configWord (w : BitVec 16)
  /-- an operation of format P or T by its identifier and its operand bytes (R66, R69, R70; log entry 3) -/
  | operation (bytes : List Byte)
  deriving DecidableEq, Repr

end Sys2Proof
end

