-- ==== Sys2Proof/WellFormed.lean ====
section
/-!
DEFINITION. Which operations a request can carry: the checks on operands that their types do not make.
A mapping names no field twice (R83); the other bounds are those of the operand bytes of log entry 3. The meanings are total on ill-formed operations too.
-/

namespace Sys2Proof

/-- Well-formedness of an operation (R83: a mapping; log entry 3: operand sizes). -/
def Instr.wellFormed : Instr → Bool
  | .fieldInsert _ vals => decide ((vals.map Prod.fst).Nodup) && decide (vals.length < 256)
  | .inspect labels => decide (labels.length < 256)
  | .waitrdy t => decide (t < 2 ^ 32)
  | .send payload _ _ => decide (payload.length < 2 ^ 16)
  | .sleep d => decide (d < 2 ^ 32)
  | .decode _ _ | .fieldValue _ _ _ | .encode | .run _ _ | .apply => true
  | .cfgFreq | .cfgDatamodul | .cfgPacket | .cfgPaylen => true
  | .cfgFifo | .cfgPreambleSync | .cfgBitrate | .cfgPaOcp => true
  | .wrFrfMsb _ | .wrFrfMid _ | .wrFrfLsb _ | .wrDatamodul | .wrPacketConfig1 => true
  | .wrPayloadLength | .wrFifoThresh _ | .wrPreambleMsb | .wrPreambleLsb => true
  | .wrSyncConfig _ | .wrBitrateMsb _ | .wrBitrateLsb _ | .wrPaLevel _ _ | .wrOcp _ => true
  | .acquire | .release | .rdreg _ | .wrreg _ _ | .setmode _ => true

end Sys2Proof
end

