-- ==== Sys2Proof/Decode.lean ====
section
/-!
DEFINITION. From bits to an operation, total and rejecting by name, and back (spec/30_encoding.md R62,
R66 to R70). Formats H (command word) and W (configuration word) are the spec's; formats P and T give an
operation an identifier and no operands' encoding, so the operand bytes that follow the identifier are the
model's own (log entry 3, DESIGN CHOICE): one byte for a label, a field name, an address or a byte value;
two for a field value; four for a duration or a count; big-endian, as R62 splits every wide value.
-/

namespace Sys2Proof

/-- Why a request is no operation. -/
inductive DecodeError where
  /-- a command word other than 0x10 to 0x13 (R65(e), R67) -/
  | refusedCommand (w : Byte)
  /-- an identifier that R66 does not list -/
  | unknownOperation (id : Byte)
  /-- fewer operand bytes than the operation has (log entry 3) -/
  | truncated
  /-- a mode byte above 3 (log entry 3) -/
  | badMode (code : Byte)
  /-- a flag byte above 1 (log entry 3) -/
  | badFlag (code : Byte)
  /-- a mapping that names a field twice (R83) -/
  | repeatedName
  /-- block reset is an input of the host, not an operation (R190) -/
  | blockReset
  deriving DecidableEq, Repr

/-! ## Byte order (R62, R42) -/

/-- R62: the `k` bytes of a value, most significant first. -/
def bytesBE : Nat → Nat → List Byte
  | 0, _ => []
  | k + 1, v => BitVec.ofNat 8 (v / 256 ^ k) :: bytesBE k v

/-- R62: the value of a sequence of bytes, most significant first. -/
def natBE (bs : List Byte) : Nat :=
  bs.foldl (fun acc b => acc * 256 + b.toNat) 0

/-- The next `k` bytes, and the rest. -/
def takeBytes : Nat → List Byte → Option (List Byte × List Byte)
  | 0, bs => some ([], bs)
  | _ + 1, [] => none
  | k + 1, b :: bs =>
    match takeBytes k bs with
    | some (taken, rest) => some (b :: taken, rest)
    | none => none

/-- A big-endian number of `k` bytes, and the rest. -/
def takeNat (k : Nat) (bs : List Byte) : Option (Nat × List Byte) :=
  match takeBytes k bs with
  | some (taken, rest) => some (natBE taken, rest)
  | none => none

/-! ## Format H, the host command word (R67) -/

/-- R67: bits 7:2 are 0b000100, bit 1 is diag, bit 0 is dry; every other word is refused (R65(e)). -/
def decodeCommand (w : Byte) : Except DecodeError Instr :=
  if w.extractLsb' 2 6 = 0b000100#6 then .ok (.run (w.getLsbD 1) (w.getLsbD 0))
  else .error (.refusedCommand w)

/-- R67: the command word of a run. -/
def commandWord (diag dry : Bool) : Byte :=
  0b000100#6 ++ BitVec.ofBool diag ++ BitVec.ofBool dry

/-! ## Format W, the configuration word (R68) -/

/-- R68: the 14 patterns of the default ADDR and the target profile, each the word WR_<label>: bits 15:8 the
address, bits 7:0 the data pattern. -/
def tableConfigWord? (w : BitVec 16) : Option Instr :=
  let v : Byte := w.extractLsb' 0 8
  match (w.extractLsb' 8 8).toNat with
  | 0x07 => some (.wrFrfMsb v)
  | 0x08 => some (.wrFrfMid v)
  | 0x09 => some (.wrFrfLsb v)
  | 0x02 => if v = 0x08#8 then some .wrDatamodul else none
  | 0x37 => if v = 0x00#8 then some .wrPacketConfig1 else none
  | 0x38 => if v = 0x00#8 then some .wrPayloadLength else none
  | 0x3C => if v.getLsbD 7 then some (.wrFifoThresh (v.extractLsb' 0 7)) else none
  | 0x2C => if v = 0x00#8 then some .wrPreambleMsb else none
  | 0x2D => if v = 0x00#8 then some .wrPreambleLsb else none
  | 0x2E =>
    if v.extractLsb' 6 2 = 0#2 ∧ v.extractLsb' 0 3 = 0#3 then some (.wrSyncConfig (v.extractLsb' 3 3)) else none
  | 0x03 => some (.wrBitrateMsb v)
  | 0x04 => some (.wrBitrateLsb v)
  | 0x11 => some (.wrPaLevel (v.extractLsb' 5 3) (v.extractLsb' 0 5))
  | 0x13 => if v.extractLsb' 4 4 = 0#4 then some (.wrOcp (v.extractLsb' 0 4)) else none
  | _ => none

/-- A configuration word: one of the 14, or the WRREG of its address and byte (R68; R143: "as a configuration word,
format W"). -/
def decodeConfigWord (w : BitVec 16) : Instr :=
  (tableConfigWord? w).getD (.wrreg (w.extractLsb' 8 8) (w.extractLsb' 0 8))

/-! ## Formats P and T (R66, R69, R70): identifier, then operand bytes (log entry 3) -/

/-- SETMODE's operand: the document's order Sleep, Standby, Rx, Tx (R63). -/
def decodeMode (code : Byte) : Except DecodeError Mode :=
  match code.toNat with
  | 0 => .ok .sleep
  | 1 => .ok .standby
  | 2 => .ok .rx
  | 3 => .ok .tx
  | _ => .error (.badMode code)

/-- The byte of a mode operand. -/
def modeCode : Mode → Byte
  | .sleep => 0#8
  | .standby => 1#8
  | .rx => 2#8
  | .tx => 3#8

/-- A mapping of `n` pairs: a field-name byte and a two-byte value each. -/
def takePairs : Nat → List Byte → Option (List (Byte × BitVec 16) × List Byte)
  | 0, bs => some ([], bs)
  | n + 1, f :: hi :: lo :: bs =>
    match takePairs n bs with
    | some (pairs, rest) => some ((f, hi ++ lo) :: pairs, rest)
    | none => none
  | _ + 1, _ => none

/-- The bytes of a mapping. -/
def pairBytes : List (Byte × BitVec 16) → List Byte
  | [] => []
  | (f, v) :: ps => f :: v.extractLsb' 8 8 :: v.extractLsb' 0 8 :: pairBytes ps

/-- FIELD_INSERT's operands: label, number of pairs, pairs (R83). -/
def decodeFieldInsert : List Byte → Except DecodeError (Instr × List Byte)
  | label :: n :: bs =>
    match takePairs n.toNat bs with
    | some (vals, rest) =>
      if (vals.map Prod.fst).Nodup then .ok (.fieldInsert label vals, rest) else .error .repeatedName
    | none => .error .truncated
  | _ => .error .truncated

/-- INSPECT's operands: number of labels, labels (R110); a label given twice is in the set once. -/
def decodeInspect : List Byte → Except DecodeError (Instr × List Byte)
  | n :: bs =>
    match takeBytes n.toNat bs with
    | some (labels, rest) => .ok (.inspect labels, rest)
    | none => .error .truncated
  | [] => .error .truncated

/-- WAITRDY's and SLEEP's operand: a duration of four bytes. -/
def decodeDuration (op : Ticks → Instr) (bs : List Byte) : Except DecodeError (Instr × List Byte) :=
  match takeNat 4 bs with
  | some (t, rest) => .ok (op t, rest)
  | none => .error .truncated

/-- SEND's last operands: attempts (four bytes) and require_ack (one byte). -/
def decodeSendTail (payload : List Byte) : List Byte → Except DecodeError (Instr × List Byte)
  | a :: b :: c :: d :: ack :: rest =>
    if ack = 0#8 then .ok (.send payload (a ++ b ++ c ++ d) false, rest)
    else if ack = 1#8 then .ok (.send payload (a ++ b ++ c ++ d) true, rest)
    else .error (.badFlag ack)
  | _ => .error .truncated

/-- SEND's operands: payload length (two bytes), payload, attempts, require_ack (R146). -/
def decodeSend : List Byte → Except DecodeError (Instr × List Byte)
  | hi :: lo :: bs =>
    match takeBytes (hi.toNat * 256 + lo.toNat) bs with
    | some (payload, rest) => decodeSendTail payload rest
    | none => .error .truncated
  | _ => .error .truncated

/-- The operation a byte sequence begins with, and the bytes after it (R66: the identifier). -/
def decodeOperation : List Byte → Except DecodeError (Instr × List Byte)
  | [] => .error .truncated
  | id :: bs =>
    match id.toNat with
    | 0x01 =>
      match bs with
      | label :: raw :: rest => .ok (.decode label raw, rest)
      | _ => .error .truncated
    | 0x02 =>
      match bs with
      | label :: field :: raw :: rest => .ok (.fieldValue label field raw, rest)
      | _ => .error .truncated
    | 0x03 => decodeFieldInsert bs
    | 0x04 => .ok (.encode, bs)
    | 0x11 => .ok (.apply, bs)
    | 0x12 => decodeInspect bs
    | 0x21 => .ok (.cfgFreq, bs)
    | 0x22 => .ok (.cfgDatamodul, bs)
    | 0x23 => .ok (.cfgPacket, bs)
    | 0x24 => .ok (.cfgPaylen, bs)
    | 0x25 => .ok (.cfgFifo, bs)
    | 0x26 => .ok (.cfgPreambleSync, bs)
    | 0x27 => .ok (.cfgBitrate, bs)
    | 0x28 => .ok (.cfgPaOcp, bs)
    | 0x30 => .ok (.acquire, bs)
    | 0x31 => .ok (.release, bs)
    | 0x32 =>
      match bs with
      | a :: rest => .ok (.rdreg a, rest)
      | _ => .error .truncated
    | 0x33 =>
      match bs with
      | a :: v :: rest => .ok (.wrreg a v, rest)
      | _ => .error .truncated
    | 0x34 =>
      match bs with
      | m :: rest =>
        match decodeMode m with
        | .ok mode => .ok (.setmode mode, rest)
        | .error e => .error e
      | _ => .error .truncated
    | 0x35 => decodeDuration .waitrdy bs
    | 0x36 => decodeSend bs
    | 0x37 => decodeDuration .sleep bs
    | _ => .error (.unknownOperation id)

/-! ## Requests -/

/-- The operation a request stands for. Bytes after an operation are not part of it. -/
def decodeRequest : Request → Except DecodeError Instr
  | .command w => decodeCommand w
  | .reset => .error .blockReset
  | .configWord w => .ok (decodeConfigWord w)
  | .operation bytes =>
    match decodeOperation bytes with
    | .ok (i, _) => .ok i
    | .error e => .error e

/-- The request that carries an operation, from the same tables (R66 to R70, log entry 3). -/
def encodeRequest : Instr → Request
  | .decode label raw => .operation [0x01#8, label, raw]
  | .fieldValue label field raw => .operation [0x02#8, label, field, raw]
  | .fieldInsert label vals => .operation (0x03#8 :: label :: BitVec.ofNat 8 vals.length :: pairBytes vals)
  | .encode => .operation [0x04#8]
  | .run diag dry => .command (commandWord diag dry)
  | .apply => .operation [0x11#8]
  | .inspect labels => .operation (0x12#8 :: BitVec.ofNat 8 labels.length :: labels)
  | .cfgFreq => .operation [0x21#8]
  | .cfgDatamodul => .operation [0x22#8]
  | .cfgPacket => .operation [0x23#8]
  | .cfgPaylen => .operation [0x24#8]
  | .cfgFifo => .operation [0x25#8]
  | .cfgPreambleSync => .operation [0x26#8]
  | .cfgBitrate => .operation [0x27#8]
  | .cfgPaOcp => .operation [0x28#8]
  | .wrFrfMsb f => .configWord (0x07#8 ++ f)
  | .wrFrfMid g => .configWord (0x08#8 ++ g)
  | .wrFrfLsb h => .configWord (0x09#8 ++ h)
  | .wrDatamodul => .configWord 0x0208#16
  | .wrPacketConfig1 => .configWord 0x3700#16
  | .wrPayloadLength => .configWord 0x3800#16
  | .wrFifoThresh t => .configWord (0x3C#8 ++ 1#1 ++ t)
  | .wrPreambleMsb => .configWord 0x2C00#16
  | .wrPreambleLsb => .configWord 0x2D00#16
  | .wrSyncConfig s => .configWord (0x2E#8 ++ 0#2 ++ s ++ 0#3)
  | .wrBitrateMsb m => .configWord (0x03#8 ++ m)
  | .wrBitrateLsb l => .configWord (0x04#8 ++ l)
  | .wrPaLevel a p => .configWord (0x11#8 ++ a ++ p)
  | .wrOcp c => .configWord (0x13#8 ++ 0#4 ++ c)
  | .acquire => .operation [0x30#8]
  | .release => .operation [0x31#8]
  | .rdreg a => .operation [0x32#8, a]
  | .wrreg a v => .operation [0x33#8, a, v]
  | .setmode m => .operation [0x34#8, modeCode m]
  | .waitrdy t => .operation (0x35#8 :: bytesBE 4 t)
  | .send payload attempts requireAck =>
    .operation (0x36#8 :: bytesBE 2 payload.length ++ payload ++ bytesBE 4 attempts.toNat
      ++ [if requireAck then 1#8 else 0#8])
  | .sleep d => .operation (0x37#8 :: bytesBE 4 d)

/-! ## The host's words -/

/-- The request that an instruction of spec/opcode_table.json is laid out as, from its bits as the table
numbers them. 16 bits are a configuration word where they are one of the 14 (R68). Otherwise the bytes, the
first the least significant, are an operation by its identifier, with eight zero bytes after them for the
operands the table gives no bits. Where the first byte is no identifier, 16 bits are again a configuration word,
and 8 bits a command word where they are one. The identifiers of APPLY and INSPECT (R66) and two of RUN's words
(R67) are the same bytes at different ports, so 0x11 and 0x12 stand here for APPLY and INSPECT, 0x10 and 0x13 for
RUN (log entries 2, 3). -/
def requestOfTableWord (nbits w : Nat) : Request :=
  let bytes := bytesLE (nbits / 8) w ++ List.replicate 8 0#8
  if nbits = 16 ∧ (tableConfigWord? (BitVec.ofNat 16 w)).isSome then .configWord (BitVec.ofNat 16 w)
  else
    match decodeOperation bytes with
    | .ok _ => .operation bytes
    | .error _ =>
      if nbits = 16 then .configWord (BitVec.ofNat 16 w)
      else
        match decodeCommand (BitVec.ofNat 8 w) with
        | .ok _ => .command (BitVec.ofNat 8 w)
        | .error _ => .operation bytes
where
  /-- The `k` bytes of a value, least significant first: the table's numbering of bits. -/
  bytesLE : Nat → Nat → List Byte
    | 0, _ => []
    | k + 1, v => BitVec.ofNat 8 v :: bytesLE k (v / 256)

/-- What the decoder reads from an instruction whose bits are `w`, numbered as spec/opcode_table.json
numbers them; `none` where it refuses. -/
def decodeTableWord (nbits w : Nat) : Option Instr :=
  match decodeRequest (requestOfTableWord nbits w) with
  | .ok i => some i
  | .error _ => none

end Sys2Proof
end

