-- ==== Sys2Proof/Machine/Profile.lean ====
section
/-!
DEFINITION. The default register map (ADDR, spec/20_memory.md R44; LAYOUT, spec/10_state.md R20 to R32 and
spec/30_encoding.md R61) and the example profile P0 (spec/00_scope.md R6). Every address, bit position and
P0 value is a default of a parameter, not a claim about the device (D2, D3, D4; log entries 5, 18).
-/

namespace Sys2Proof

/-- The number of a label: its place in the model (R20 to R32), the index of `addr` and `layout`, and the
byte a request names it by (log entry 3). -/
def Label.code : Label → Fin 39
  | .opmode => 0 | .datamodul => 1 | .bitrateMsb => 2 | .bitrateLsb => 3
  | .frfMsb => 4 | .frfMid => 5 | .frfLsb => 6 | .paLevel => 7
  | .ocp => 8 | .preambleMsb => 9 | .preambleLsb => 10 | .syncConfig => 11
  | .syncValue1 => 12 | .syncValue2 => 13 | .syncValue3 => 14 | .syncValue4 => 15
  | .syncValue5 => 16 | .syncValue6 => 17 | .syncValue7 => 18 | .syncValue8 => 19
  | .packetConfig1 => 20 | .payloadLength => 21 | .fifoThresh => 22 | .aesKey1 => 23
  | .aesKey2 => 24 | .aesKey3 => 25 | .aesKey4 => 26 | .aesKey5 => 27
  | .aesKey6 => 28 | .aesKey7 => 29 | .aesKey8 => 30 | .aesKey9 => 31
  | .aesKey10 => 32 | .aesKey11 => 33 | .aesKey12 => 34 | .aesKey13 => 35
  | .aesKey14 => 36 | .aesKey15 => 37 | .aesKey16 => 38

/-- The modelled labels in the order of their numbers. -/
def Label.all : List Label :=
  [.opmode, .datamodul, .bitrateMsb, .bitrateLsb, .frfMsb, .frfMid,
   .frfLsb, .paLevel, .ocp, .preambleMsb, .preambleLsb, .syncConfig,
   .syncValue1, .syncValue2, .syncValue3, .syncValue4, .syncValue5, .syncValue6,
   .syncValue7, .syncValue8, .packetConfig1, .payloadLength, .fifoThresh, .aesKey1,
   .aesKey2, .aesKey3, .aesKey4, .aesKey5, .aesKey6, .aesKey7,
   .aesKey8, .aesKey9, .aesKey10, .aesKey11, .aesKey12, .aesKey13,
   .aesKey14, .aesKey15, .aesKey16]

/-- The label a byte names; `none` for a label outside the model (R33, R82). -/
def Label.ofCode? (c : Byte) : Option Label :=
  Label.all[c.toNat]?

/-- The byte a request names a field by (log entry 3). A byte
above 55 names a field that only another LAYOUT has. -/
def FieldName.code : FieldName → Byte
  | .sequencerOff => 0 | .listenOn => 1 | .listenAbort => 2 | .mode => 3
  | .dataMode => 4 | .modulationType => 5 | .modulationShaping => 6 | .bitRateMsb => 7
  | .bitRateLsb => 8 | .frfMsb => 9 | .frfMid => 10 | .frfLsb => 11
  | .pa0On => 12 | .pa1On => 13 | .pa2On => 14 | .outputPower => 15
  | .ocpOn => 16 | .ocpTrim => 17 | .preambleMsb => 18 | .preambleLsb => 19
  | .syncOn => 20 | .fifoFillCondition => 21 | .syncSize => 22 | .syncTol => 23
  | .syncValue1 => 24 | .syncValue2 => 25 | .syncValue3 => 26 | .syncValue4 => 27
  | .syncValue5 => 28 | .syncValue6 => 29 | .syncValue7 => 30 | .syncValue8 => 31
  | .packetFormat => 32 | .dcFree => 33 | .crcOn => 34 | .crcAutoClearOff => 35
  | .addressFiltering => 36 | .payloadLength => 37 | .txStartCondition => 38 | .fifoThreshold => 39
  | .aesKey1 => 40 | .aesKey2 => 41 | .aesKey3 => 42 | .aesKey4 => 43
  | .aesKey5 => 44 | .aesKey6 => 45 | .aesKey7 => 46 | .aesKey8 => 47
  | .aesKey9 => 48 | .aesKey10 => 49 | .aesKey11 => 50 | .aesKey12 => 51
  | .aesKey13 => 52 | .aesKey14 => 53 | .aesKey15 => 54 | .aesKey16 => 55
  | .other n => BitVec.ofNat 8 (56 + n.val)

/-- ADDR's default (R44). -/
def defaultAddr : Vector Byte 39 :=
  #v[
    0x01#8, 0x02#8, 0x03#8, 0x04#8, 0x07#8, 0x08#8, 0x09#8, 0x11#8, 0x13#8, 0x2C#8,
    0x2D#8, 0x2E#8, 0x2F#8, 0x30#8, 0x31#8, 0x32#8, 0x33#8, 0x34#8, 0x35#8, 0x36#8,
    0x37#8, 0x38#8, 0x3C#8, 0x3E#8, 0x3F#8, 0x40#8, 0x41#8, 0x42#8, 0x43#8, 0x44#8,
    0x45#8, 0x46#8, 0x47#8, 0x48#8, 0x49#8, 0x4A#8, 0x4B#8, 0x4C#8, 0x4D#8]

/-- The default decode table of a field (R20 to R31); a field without one is a number. -/
def defaultTable : FieldName → DecodeTable
  | .sequencerOff => .fixed [(0, .sequencerOn), (1, .sequencerOff)]
  | .listenOn => .fixed [(0, .off), (1, .on)]
  | .listenAbort => .fixed [(0, .zero), (1, .one)]
  | .mode => .fixed [(0, .sleep), (1, .standby), (2, .frequencySynthesizer), (3, .tx), (4, .rx)]
  | .dataMode => .fixed [(0, .packet), (2, .continuousWithBitSync), (3, .continuousWithoutBitSync)]
  | .modulationType => .fixed [(0, .fsk), (1, .ook), (2, .reserved1), (3, .reserved2)]
  | .pa0On => .fixed [(0, .off), (1, .on)]
  | .pa1On => .fixed [(0, .off), (1, .on)]
  | .pa2On => .fixed [(0, .off), (1, .on)]
  | .ocpOn => .fixed [(0, .disabled), (1, .enabled)]
  | .syncOn => .fixed [(0, .off), (1, .on)]
  | .fifoFillCondition => .fixed [(0, .onSyncAddressInterrupt), (1, .whileConditionSet)]
  | .packetFormat => .fixed [(0, .fixedLength), (1, .variableLength)]
  | .dcFree => .fixed [(0, .none), (1, .manchester), (2, .whitening)]
  | .crcOn => .fixed [(0, .off), (1, .on)]
  | .crcAutoClearOff => .fixed [(0, .autoClearEnabled), (1, .autoClearDisabled)]
  | .addressFiltering => .fixed [(0, .off), (1, .node), (2, .nodeOrBroadcast)]
  | .txStartCondition => .fixed [(0, .fifoLevel), (1, .fifoNotEmpty)]
  | .modulationShaping =>
    .chosenBy .modulationType
      [(0, [(0, .none), (1, .gaussianBt10), (2, .gaussianBt05), (3, .gaussianBt03)]),
       (1, [(0, .none), (1, .filterFcutoffBr), (2, .filterFcutoff2Br)])]
      [(0, .none)]
  | _ => .number

/-- A field of the default LAYOUT. -/
def field (name : FieldName) (high low : Nat) : FieldDef :=
  ⟨name, high, low, defaultTable name⟩

/-- A format N register: one field, bits 7:0 (R61). -/
def numeric (name : FieldName) : List FieldDef :=
  [field name 7 0]

/-- LAYOUT's default (R20 to R32, R61), in the order of `Label.code`. -/
def defaultLayout : Vector (List FieldDef) 39 :=
  #v[
    [field .sequencerOff 7 7, field .listenOn 6 6, field .listenAbort 5 5, field .mode 4 2],
    [field .dataMode 6 5, field .modulationType 4 3, field .modulationShaping 1 0],
    numeric .bitRateMsb,
    numeric .bitRateLsb,
    numeric .frfMsb,
    numeric .frfMid,
    numeric .frfLsb,
    [field .pa0On 7 7, field .pa1On 6 6, field .pa2On 5 5, field .outputPower 4 0],
    [field .ocpOn 4 4, field .ocpTrim 3 0],
    numeric .preambleMsb,
    numeric .preambleLsb,
    [field .syncOn 7 7, field .fifoFillCondition 6 6, field .syncSize 5 3, field .syncTol 2 0],
    numeric .syncValue1,
    numeric .syncValue2,
    numeric .syncValue3,
    numeric .syncValue4,
    numeric .syncValue5,
    numeric .syncValue6,
    numeric .syncValue7,
    numeric .syncValue8,
    [field .packetFormat 7 7, field .dcFree 6 5, field .crcOn 4 4, field .crcAutoClearOff 3 3, field .addressFiltering 2 1],
    numeric .payloadLength,
    [field .txStartCondition 7 7, field .fifoThreshold 6 0],
    numeric .aesKey1,
    numeric .aesKey2,
    numeric .aesKey3,
    numeric .aesKey4,
    numeric .aesKey5,
    numeric .aesKey6,
    numeric .aesKey7,
    numeric .aesKey8,
    numeric .aesKey9,
    numeric .aesKey10,
    numeric .aesKey11,
    numeric .aesKey12,
    numeric .aesKey13,
    numeric .aesKey14,
    numeric .aesKey15,
    numeric .aesKey16]

/-- `round(num / den)` of exact integers, an exact half by the tie rule (R9, R100, D10). -/
def roundQuotient (tie : RoundTie) (num den : Nat) : Nat :=
  let q := num / den
  let twice := 2 * (num % den)
  if twice < den then q
  else if den < twice then q + 1
  else match tie with
    | .halfUp => q + 1
    | .halfEven => if q % 2 = 0 then q else q + 1

/-- R92: FRF_WORD = round(CARRIER_HZ * 2^19 / FXOSC_HZ). PRESUMED: general knowledge (G10, log entry 17). -/
def frfWordOf (tie : RoundTie) (carrierHz fxoscHz : Nat) : Nat :=
  roundQuotient tie (carrierHz * 2 ^ 19) fxoscHz

/-- The example profile P0 (R6). -/
def Params.p0 : Params where
  fxoscHz := 32000000
  bitRateBps := 1400
  carrierHz := 433920000
  frfWord := 0x6C7AE1#24
  outputPower := 31#5
  paStage := 0b011#3
  ocpTrimCfg := 0xF#4
  fifoThreshold := 15#7
  syncSizeField := 0#3
  signalUnit := [0x8E#8, 0x8E#8, 0x88#8, 0xEE#8, 0x88#8, 0x00#8, 0x00#8, 0x00#8, 0x00#8]
  unitRepeat := 4
  repeatCount := 32#32
  interPacketDelay := 100
  attemptsPerSend := 1#32
  requireAck := false
  maxWait := 1000
  regsOfInterest := Label.all
  addr := defaultAddr
  layout := defaultLayout
  roundTie := .halfEven
  trailingDelay := true
  tickMicros := 1000

end Sys2Proof
end

