-- ==== Sys2Proof/Machine/State.lean ====
section
/-!
DEFINITION. Everything the spec gives the machine (spec/10_state.md): the block's own registers (R10), the
transceiver's register space as the ideal device holds it (R19, R53), the environment's answers (R52), the
interface, and the static parameters (R35). Plain data.
-/

namespace Sys2Proof.Machine

/-- STATE (R12). -/
inductive JobState where
  | idle | configuring | ready | sending | aborted
  deriving DecidableEq, Repr

/-- The fatal errors of a job (R15, R171 to R173): DeviceUnavailable, ConfigError::WriteFailed(register),
ConfigError::ModeTimeout. -/
inductive FatalError where
  | deviceUnavailable
  | writeFailed (register : Label)
  | modeTimeout
  deriving DecidableEq, Repr

/-- RESULT of a job, and what APPLY returns: Ok or Err(E) (R15, R91). -/
inductive JobResult where
  | ok
  | err (e : FatalError)
  deriving DecidableEq, Repr

/-- The non-fatal inspection error (R18, R174). -/
inductive InspectionError where
  | readFailed (register : Label)
  deriving DecidableEq, Repr

/-- Ok or Err, the answer of ACQUIRE, WRREG and SETMODE (R69). -/
inductive Answer where
  | ok | err
  deriving DecidableEq, Repr

/-- Ok(byte) or Err(IoError), the answer of RDREG (R69, R142). -/
inductive ReadAnswer where
  | ok (b : Byte)
  | ioError
  deriving DecidableEq, Repr

/-- A transaction event, the element of TRACE (R69). -/
inductive Event where
  | acquire (a : Answer)
  | release
  | rdreg (address : Byte) (r : ReadAnswer)
  | wrreg (address value : Byte) (r : Answer)
  | setmode (m : Mode) (r : Answer)
  | waitrdy (maxWait : Ticks) (ready : Bool)
  | send (payload : List Byte) (attempts : Count) (requireAck : Bool) (sent : Bool)
  | sleep (d : Ticks)
  deriving DecidableEq, Repr

/-- What DECODE gives for one field: a number, a label of its decode table, or the sentinel
unrecognized(v) (R65(a), R80). -/
inductive FieldReading where
  | number (v : Nat)
  | label (l : ValueLabel)
  | unrecognized (v : Nat)
  deriving DecidableEq, Repr

/-- The name of a report attribute: a field, or a derived attribute (R111 to R116). -/
inductive AttrName where
  | field (f : FieldName)
  | effectiveBitRate | currentLimit | syncWord | aesKey
  deriving DecidableEq, Repr

/-- The value of a report attribute: what DECODE gave, a number, an exact quotient, or the explicit
`undefined` of a divisor 0 (R112). -/
inductive AttrValue where
  | reading (r : FieldReading)
  | number (v : Nat)
  | quotient (num den : Nat)
  | undefined
  deriving DecidableEq, Repr

/-- One decoded attribute: name, value, optional unit (R86, R111). -/
structure ReportAttr where
  name    : AttrName
  value   : AttrValue
  measure : Option Measure
  deriving DecidableEq, Repr

/-- One entry of the report (R111). -/
structure ReportEntry where
  register : Label
  raw      : Byte
  attrs    : List ReportAttr
  deriving DecidableEq, Repr

/-- What an operation invoked on its own returned to its caller (log entry 12). -/
inductive Return where
  /-- DECODE's mapping (R80) -/
  | mapping (m : List (FieldName × FieldReading))
  /-- FIELD_VALUE's raw bits (R81) -/
  | rawBits (v : Nat)
  /-- FIELD_INSERT's byte (R83) -/
  | byte (b : Byte)
  /-- ENCODE's payload (R130) -/
  | payload (bytes : List Byte)
  /-- RDREG's answer (R142) -/
  | readAnswer (r : ReadAnswer)
  /-- SEND's answer (R146) -/
  | sendAnswer (sent : Bool)
  /-- APPLY's result (R91) -/
  | applied (r : JobResult)
  /-- INSPECT's result; the report is in REPORT (R110) -/
  | inspected (e : Option InspectionError)
  /-- UnknownRegisterError(label), the label as it was named (R82, R176) -/
  | unknownRegister (label : Byte)
  /-- FieldError(label, field), both as they were named (R81, R83, R177) -/
  | fieldError (label field : Byte)
  deriving DecidableEq, Repr

/-- The two models of the environment (R52, R53). -/
inductive Environment where
  /-- every answer is a free draw and there is no register file to speak of (R52, P7) -/
  | unconstrained
  /-- the ideal register-file device (R53) -/
  | ideal
  deriving DecidableEq, Repr

/-- One answer of the environment: whether it succeeds, and the byte it brings (R50, R52). -/
structure Draw where
  ok   : Bool
  byte : Byte
  deriving DecidableEq, Repr

/-- Why the machine stops with a fault. -/
inductive Fault where
  /-- Raised by `step` alone: STATE is Sending and K is not in 1..REPEAT_COUNT, where R155 names no action.
  Safe: no run from reset reaches it (log entry 15). -/
  | iterationOutOfRange
  deriving DecidableEq, Repr

/-- Why a step has no meaning. -/
inductive Refusal where
  /-- Raised by an arm of `exec` for an operation that has no meaning yet; no arm does. Safe. -/
  | notModelled (mnemonic : String)
  /-- Raised by `step`: the parameter assignment is ill formed (R7, U10); the spec gives it no meaning.
  Safe (log entry 8). -/
  | illFormedParameters
  /-- Raised by `step`: block reset while a job runs is "outside the model" (R190, U17). Safe (log entry 7). -/
  | resetDuringJob
  deriving DecidableEq, Repr

/-- The machine's state. -/
structure State where
  /-- the static parameters (R6, R35): not state of the block, written by no step (log entry 5) -/
  params     : Params
  /-- STATE (R12) -/
  state      : JobState
  /-- STEP, 0..16 (R11) -/
  step       : Fin 17
  /-- K (R13) -/
  k          : Count
  /-- DRY (R14) -/
  dry        : Bool
  /-- DIAG (R14) -/
  diag       : Bool
  /-- OWNED (R17) -/
  owned      : Bool
  /-- ERR (R15) -/
  err        : Option FatalError
  /-- RESULT (R15) -/
  result     : Option JobResult
  /-- SEND_FAIL (R16) -/
  sendFail   : List Count
  /-- SEND_CALLS (R16) -/
  sendCalls  : Nat
  /-- INSPECT_ERR (R18) -/
  inspectErr : Option InspectionError
  /-- ELAPSED (R17) -/
  elapsed    : Ticks
  /-- REPORT (R18) -/
  report     : List ReportEntry
  /-- TRACE (R18) -/
  trace      : List Event
  /-- which model of the environment answers (R52, R53) -/
  env        : Environment
  /-- the ideal device's `dev`: the registers whose byte is known (R53; log entry 9) -/
  dev        : List Host.Cell
  /-- which "any value" the other registers hold (R36, R197; log entries 9, 11) -/
  devEpoch   : Nat
  /-- answers of the environment already chosen, in order (R52; log entry 4) -/
  answers    : List Draw
  /-- how many free draws have been used (R52; log entry 4) -/
  drawn      : Nat
  /-- the request at the block's port (R67, R190; log entry 2) -/
  port       : Option Request
  /-- what the last operation invoked on its own returned (log entry 12) -/
  ret        : Option Return
  deriving DecidableEq, Repr

/-- The state right after block reset under given parameters (R36, R190; the model's own fields: log entry 26). -/
def State.resetWith (p : Params) : State where
  params := p
  state := .idle
  step := 0
  k := 0#32
  dry := false
  diag := false
  owned := false
  err := none
  result := none
  sendFail := []
  sendCalls := 0
  inspectErr := none
  elapsed := 0
  report := []
  trace := []
  env := .unconstrained
  dev := []
  devEpoch := 0
  answers := []
  drawn := 0
  port := none
  ret := none

/-- The machine right after reset (R36), under the spec's example profile P0 (R6; log entry 5). -/
def State.reset : State :=
  State.resetWith Params.p0

end Sys2Proof.Machine
end

