-- ==== Sys2Proof/Machine/Operands.lean ====
section
/-!
DEFINITION. Every operand form: the register map seen through a parameter assignment (spec/20_memory.md R44,
spec/30_encoding.md R60 to R63), the decode tables (spec/10_state.md R19), the pure functions of the
register and bitfield model over them (spec/41_bitfield_model.md R80 to R85), the configuration table
(spec/42_config_sequencer.md R90, R100, R101), the payload (spec/44_packet_encoder.md R130), and which
parameter assignments are well formed (spec/00_scope.md R7).
-/

namespace Sys2Proof

open Machine

/-! ## Registers and their fields -/

/-- ADDR(L) (R44). -/
def Params.addrOf (p : Params) (l : Label) : Byte :=
  p.addr[l.code]

/-- LAYOUT(L) (R19). -/
def Params.fieldsOf (p : Params) (l : Label) : List FieldDef :=
  p.layout[l.code]

/-- The modelled label at an address, if there is one. -/
def Params.labelAt? (p : Params) (a : Byte) : Option Label :=
  Label.all.find? (fun l => p.addrOf l == a)

/-- The label a failed write to an address is reported under (R143): that of ADDR; for an address outside
ADDR the spec states none and the label is free (log entry 13, DESIGN CHOICE). -/
def Params.reportedLabel (p : Params) (a : Byte) : Label :=
  (p.labelAt? a).getD (Config.unmodelledLabel a.toNat)

/-- The field of a register that a byte names. -/
def findField (fields : List FieldDef) (code : Byte) : Option FieldDef :=
  fields.find? (fun d => d.name.code == code)

/-- The width of a field (R60). -/
def FieldDef.width (d : FieldDef) : Nat :=
  d.high - d.low + 1

/-- R60: raw[high:low], an unsigned integer. -/
def extractField (raw : Byte) (high low : Nat) : Nat :=
  raw.toNat / 2 ^ low % 2 ^ (high - low + 1)

/-- R60: the mask of a field. -/
def fieldMask (high low : Nat) : Byte :=
  BitVec.ofNat 8 ((2 ^ (high - low + 1) - 1) * 2 ^ low)

/-- R60: the field's bits replaced by a value that fits. -/
def insertField (b : Byte) (high low v : Nat) : Byte :=
  (b &&& ~~~fieldMask high low) ||| BitVec.ofNat 8 (v * 2 ^ low)

/-- USED(L) (R85): the union of the field masks. -/
def usedBits (fields : List FieldDef) : Byte :=
  fields.foldr (fun d acc => fieldMask d.high d.low ||| acc) 0#8

/-- Insertion into a list sorted by a key, ascending. -/
def insertSorted {α : Type} (key : α → Nat) (x : α) : List α → List α
  | [] => [x]
  | y :: ys => if key x ≤ key y then x :: y :: ys else y :: insertSorted key x ys

/-- A list in ascending order of a key (R80: fields; R110: labels by address). -/
def sortByKey {α : Type} (key : α → Nat) : List α → List α
  | [] => []
  | x :: xs => insertSorted key x (sortByKey key xs)

/-! ## Decode tables (R19, R80) -/

/-- The rows of a table, given the raw value of the field that chooses it; `none` for a numeric field (R80:
`table(raw)`). -/
def DecodeTable.rows (t : DecodeTable) (selector : Option Nat) : Option (List (Nat × ValueLabel)) :=
  match t with
  | .number => none
  | .fixed rows => some rows
  | .chosenBy _ tables otherwise =>
    match selector with
    | some v => some ((tables.lookup v).getD otherwise)
    | none => some otherwise

/-- The strings of the labels (R20 to R31, R86; D22). -/
def ValueLabel.text : ValueLabel → String
  | .sequencerOn => "sequencer_on" | .sequencerOff => "sequencer_off" | .off => "off"
  | .on => "on" | .zero => "0" | .one => "1"
  | .sleep => "sleep" | .standby => "standby" | .frequencySynthesizer => "frequency_synthesizer"
  | .tx => "tx" | .rx => "rx" | .packet => "packet"
  | .continuousWithBitSync => "continuous_with_bit_sync" | .continuousWithoutBitSync => "continuous_without_bit_sync" | .fsk => "FSK"
  | .ook => "OOK" | .reserved1 => "reserved1" | .reserved2 => "reserved2"
  | .none => "none" | .gaussianBt10 => "gaussian_bt_1.0" | .gaussianBt05 => "gaussian_bt_0.5"
  | .gaussianBt03 => "gaussian_bt_0.3" | .filterFcutoffBr => "filter_fcutoff_br" | .filterFcutoff2Br => "filter_fcutoff_2br"
  | .disabled => "disabled" | .enabled => "enabled" | .onSyncAddressInterrupt => "on_sync_address_interrupt"
  | .whileConditionSet => "while_condition_set" | .fixedLength => "fixed-length" | .variableLength => "variable-length"
  | .manchester => "Manchester" | .whitening => "whitening" | .autoClearEnabled => "auto_clear_enabled"
  | .autoClearDisabled => "auto_clear_disabled" | .node => "node" | .nodeOrBroadcast => "node_or_broadcast"
  | .fifoLevel => "fifo_level" | .fifoNotEmpty => "fifo_not_empty"
  | .other text => text

/-- The raw value, in a byte, of the field that chooses a table; `none` where the register lacks that field
(R21, R80). -/
def selectorOf (fields : List FieldDef) (raw : Byte) (t : DecodeTable) : Option Nat :=
  match t with
  | .chosenBy name _ _ => (findField fields name.code).map (fun d => extractField raw d.high d.low)
  | .number => none
  | .fixed _ => none

/-- One field of DECODE's result (R80). -/
def readField (fields : List FieldDef) (raw : Byte) (d : FieldDef) : FieldReading :=
  let v := extractField raw d.high d.low
  match d.table.rows (selectorOf fields raw d.table) with
  | none => .number v
  | some rows =>
    match rows.lookup v with
    | some l => .label l
    | none => .unrecognized v

/-- DECODE on a modelled register (R80): one entry per field, in descending order of high. -/
def decodeFields (fields : List FieldDef) (raw : Byte) : List (FieldName × FieldReading) :=
  (sortByKey (fun d : FieldDef => 255 - d.high) fields).map (fun d => (d.name, readField fields raw d))

/-! ## FIELD_VALUE, FIELD_INSERT and their inverse of DECODE -/

/-- FIELD_VALUE on a modelled register (R81); `none` is FieldError. -/
def fieldValue (fields : List FieldDef) (code raw : Byte) : Option Nat :=
  match findField fields code with
  | some d => some (extractField raw d.high d.low)
  | none => none

/-- What FIELD_INSERT answers on a modelled register (R83): the byte, or FieldError and the name of the
field it is about. -/
inductive InsertResult where
  | byte (b : Byte)
  | fieldError (field : Byte)
  deriving DecidableEq, Repr

/-- FIELD_INSERT's loop (R83), from the byte made so far. R83 takes a mapping, which has no order: that the
FieldError is about the first bad pair in the order the pairs are given is the model's (log entry 30, DESIGN
CHOICE). -/
def insertAll (fields : List FieldDef) : List (Byte × Nat) → Byte → InsertResult
  | [], b => .byte b
  | (code, v) :: rest, b =>
    match findField fields code with
    | none => .fieldError code
    | some d =>
      if 2 ^ d.width ≤ v then .fieldError code
      else insertAll fields rest (insertField b d.high d.low v)

/-- FIELD_INSERT on a modelled register (R83), the fields by name. -/
def fieldInsert (fields : List FieldDef) (vals : List (FieldName × Nat)) : InsertResult :=
  insertAll fields (vals.map (fun (f, v) => (f.code, v))) 0#8

/-- encode_label (R84): the raw value of one attribute; `none` for a label its table does not hold. -/
def encodeReading (t : DecodeTable) (selector : Option Nat) : FieldReading → Option Nat
  | .number v => some v
  | .unrecognized v => some v
  | .label l =>
    match t.rows selector with
    | none => none
    | some rows => (rows.find? (fun row => row.2 == l)).map Prod.fst

/-- The raw value, in an attribute mapping, of the field that chooses a table (R84: of the same attribute
mapping). That field has a table of its own that no other field chooses (`fieldsOk`). -/
def selectorIn (fields : List FieldDef) (m : List (FieldName × FieldReading)) (t : DecodeTable) : Option Nat :=
  match t with
  | .chosenBy name _ _ =>
    match findField fields name.code, m.lookup name with
    | some d, some r => encodeReading d.table none r
    | _, _ => none
  | .number => none
  | .fixed _ => none

/-- One attribute of a mapping as a field value (R84). -/
def encodeAttr (fields : List FieldDef) (m : List (FieldName × FieldReading)) (a : FieldName × FieldReading) :
    Option (FieldName × Nat) :=
  match findField fields a.1.code with
  | none => none
  | some d => (encodeReading d.table (selectorIn fields m d.table) a.2).map (fun v => (a.1, v))

/-- R84: the byte a complete attribute mapping determines, through FIELD_INSERT; `none` where a label is
not in its table. -/
def encodeMapping (fields : List FieldDef) (m : List (FieldName × FieldReading)) : Option InsertResult :=
  match m.mapM (encodeAttr fields m) with
  | some vals => some (fieldInsert fields vals)
  | none => none

/-! ## Packet framing (R63, R29, R30; 90_conflicts C5) -/

/-- The document's packet framing mode. -/
inductive Framing where
  | unlimited | fixedLength | variableLength
  deriving DecidableEq, Repr

/-- R63: the framing mode of PacketFormat and PAYLOAD_LENGTH. -/
def framingOf (packetFormat : Nat) (payloadLength : Byte) : Framing :=
  if packetFormat = 1 then .variableLength
  else if payloadLength = 0#8 then .unlimited
  else .fixedLength

/-! ## The configuration (R90, R100, R101) -/

/-- R100: BRDIV = round(FXOSC_HZ / BIT_RATE_BPS). -/
def Params.brdiv (p : Params) : Nat :=
  roundQuotient p.roundTie p.fxoscHz p.bitRateBps

/-- A RadioConfiguration as the field values its registers hold (R90, R105); numbers as R63 and the decode
tables give them. -/
structure RadioConfig where
  frfWord          : BitVec 24
  dataMode         : BitVec 2
  modulationType   : BitVec 2
  shaping          : BitVec 2
  packetFormat     : BitVec 1
  dcFree           : BitVec 2
  crcOn            : BitVec 1
  crcAutoClearOff  : BitVec 1
  addressFiltering : BitVec 2
  payloadLength    : Byte
  txStart          : BitVec 1
  fifoThreshold    : BitVec 7
  preamble         : BitVec 16
  syncOn           : BitVec 1
  fifoFill         : BitVec 1
  syncSize         : BitVec 3
  syncTol          : BitVec 3
  brdiv            : BitVec 16
  paStage          : BitVec 3
  outputPower      : BitVec 5
  ocpOn            : BitVec 1
  ocpTrim          : BitVec 4
  deriving DecidableEq, Repr

/-- TARGET, the one configuration the block applies (R90). -/
def Params.target (p : Params) : RadioConfig where
  frfWord := p.frfWord
  dataMode := 0
  modulationType := 1
  shaping := 0
  packetFormat := 0
  dcFree := 0
  crcOn := 0
  crcAutoClearOff := 0
  addressFiltering := 0
  payloadLength := 0
  txStart := 1
  fifoThreshold := p.fifoThreshold
  preamble := 0
  syncOn := 0
  fifoFill := 0
  syncSize := p.syncSizeField
  syncTol := 0
  brdiv := BitVec.ofNat 16 p.brdiv
  paStage := p.paStage
  outputPower := p.outputPower
  ocpOn := 0
  ocpTrim := p.ocpTrimCfg

/-- One configuration write: the register and the byte FIELD_INSERT or a split gives for it (R101). -/
structure CfgEntry where
  label : Label
  data  : InsertResult
  deriving DecidableEq, Repr

/-- DATAMODUL's byte (R93). -/
def datamodulEntry (p : Params) (c : RadioConfig) : CfgEntry :=
  ⟨.datamodul, fieldInsert (p.fieldsOf .datamodul)
    [(.dataMode, c.dataMode.toNat), (.modulationType, c.modulationType.toNat), (.modulationShaping, c.shaping.toNat)]⟩

/-- PACKET_CONFIG1's byte (R94). -/
def packetEntry (p : Params) (c : RadioConfig) : CfgEntry :=
  ⟨.packetConfig1, fieldInsert (p.fieldsOf .packetConfig1)
    [(.packetFormat, c.packetFormat.toNat), (.dcFree, c.dcFree.toNat), (.crcOn, c.crcOn.toNat),
     (.crcAutoClearOff, c.crcAutoClearOff.toNat), (.addressFiltering, c.addressFiltering.toNat)]⟩

/-- PAYLOAD_LENGTH's byte (R95). -/
def paylenEntry (c : RadioConfig) : CfgEntry :=
  ⟨.payloadLength, .byte c.payloadLength⟩

/-- FIFO_THRESH's byte (R96). -/
def fifoEntry (p : Params) (c : RadioConfig) : CfgEntry :=
  ⟨.fifoThresh, fieldInsert (p.fieldsOf .fifoThresh)
    [(.txStartCondition, c.txStart.toNat), (.fifoThreshold, c.fifoThreshold.toNat)]⟩

/-- SYNC_CONFIG's byte (R97). -/
def syncEntry (p : Params) (c : RadioConfig) : CfgEntry :=
  ⟨.syncConfig, fieldInsert (p.fieldsOf .syncConfig)
    [(.syncOn, c.syncOn.toNat), (.fifoFillCondition, c.fifoFill.toNat), (.syncSize, c.syncSize.toNat),
     (.syncTol, c.syncTol.toNat)]⟩

/-- PA_LEVEL's byte (R99). -/
def paEntry (p : Params) (c : RadioConfig) : CfgEntry :=
  ⟨.paLevel, fieldInsert (p.fieldsOf .paLevel)
    [(.pa0On, (c.paStage.extractLsb' 2 1).toNat), (.pa1On, (c.paStage.extractLsb' 1 1).toNat),
     (.pa2On, (c.paStage.extractLsb' 0 1).toNat), (.outputPower, c.outputPower.toNat)]⟩

/-- OCP's byte (R99). -/
def ocpEntry (p : Params) (c : RadioConfig) : CfgEntry :=
  ⟨.ocp, fieldInsert (p.fieldsOf .ocp) [(.ocpOn, c.ocpOn.toNat), (.ocpTrim, c.ocpTrim.toNat)]⟩

/-- Step 1: three bytes, most significant first (R92). -/
def freqEntries (c : RadioConfig) : List CfgEntry :=
  [⟨.frfMsb, .byte (c.frfWord.extractLsb' 16 8)⟩, ⟨.frfMid, .byte (c.frfWord.extractLsb' 8 8)⟩,
   ⟨.frfLsb, .byte (c.frfWord.extractLsb' 0 8)⟩]

/-- Step 6: the preamble pair, then sync (R97). -/
def preambleSyncEntries (p : Params) (c : RadioConfig) : List CfgEntry :=
  [⟨.preambleMsb, .byte (c.preamble.extractLsb' 8 8)⟩, ⟨.preambleLsb, .byte (c.preamble.extractLsb' 0 8)⟩,
   syncEntry p c]

/-- Step 7: the bit-rate pair, most significant byte first (R98). -/
def bitrateEntries (c : RadioConfig) : List CfgEntry :=
  [⟨.bitrateMsb, .byte (c.brdiv.extractLsb' 8 8)⟩, ⟨.bitrateLsb, .byte (c.brdiv.extractLsb' 0 8)⟩]

/-- Step 8: power amplifier, then over-current protection (R99). -/
def paOcpEntries (p : Params) (c : RadioConfig) : List CfgEntry :=
  [paEntry p c, ocpEntry p c]

/-- The 14-entry table of a configuration, the eight steps in order (R101, R105). -/
def configTable (p : Params) (c : RadioConfig) : List CfgEntry :=
  freqEntries c ++ [datamodulEntry p c] ++ [packetEntry p c] ++ [paylenEntry c] ++ [fifoEntry p c]
    ++ preambleSyncEntries p c ++ bitrateEntries c ++ paOcpEntries p c

/-- CFGTABLE (R101). -/
def Params.cfgTable (p : Params) : List CfgEntry :=
  configTable p p.target

/-! ## The payload (R130) -/

/-- PAYLOAD: UNIT_REPEAT copies of UNIT. -/
def Params.payload (p : Params) : List Byte :=
  (List.replicate p.unitRepeat p.signalUnit).flatten

/-! ## Well-formed parameters (R7, U10) -/

/-- R7(a), R100: the divisor exists and fits its pair. -/
def Params.brdivFits (p : Params) : Bool :=
  decide (0 < p.fxoscHz) && decide (0 < p.bitRateBps) && decide (1 ≤ p.brdiv) && decide (p.brdiv ≤ 0xFFFF)

/-- A table maps each raw value once and gives no label twice (R19: a mapping; R84: injective). -/
def rowsOk (rows : List (Nat × ValueLabel)) : Bool :=
  decide ((rows.map Prod.fst).Nodup) && decide ((rows.map Prod.snd).Nodup)

/-- Every table a field can have is a mapping and injective (R84). -/
def DecodeTable.ok : DecodeTable → Bool
  | .number => true
  | .fixed rows => rowsOk rows
  | .chosenBy _ tables otherwise => tables.all (fun t => rowsOk t.2) && rowsOk otherwise

/-- The field that chooses a table has a table of its own that no field chooses, so that an attribute mapping
determines it (R84; log entry 8). -/
def DecodeTable.chooserOk (fields : List FieldDef) : DecodeTable → Bool
  | .number => true
  | .fixed _ => true
  | .chosenBy name _ _ =>
    match findField fields name.code with
    | none => true
    | some d =>
      match d.table with
      | .number => true
      | .fixed _ => true
      | .chosenBy _ _ _ => false

/-- R7(c): one register's fields have 7 >= high >= low, do not overlap, and each has a name of its own; their
tables are injective (R84; log entry 8). -/
def fieldsOk (fields : List FieldDef) : Bool :=
  fields.all (fun d => decide (d.low ≤ d.high) && decide (d.high ≤ 7))
    && decide (fields.Pairwise (fun d e => d.high < e.low ∨ e.high < d.low))
    && decide ((fields.map FieldDef.name).Nodup)
    && fields.all (fun d => d.table.ok && d.table.chooserOk fields)

/-- R83, R90: every value TARGET writes has a field it fits, so no job meets a FieldError (R177). Whether the
decode tables of LAYOUT map these values (R65(d), R90: the default ones do) is not asked, as R7 does not ask it;
to accept such a LAYOUT and write the value is the model's choice (log entry 33, DESIGN CHOICE). -/
def Params.targetFits (p : Params) : Bool :=
  p.cfgTable.all (fun e => match e.data with | .byte _ => true | .fieldError _ => false)

/-- R7, R99, U10: the assignment is well formed (log entry 8). (d), (f) and (g) of R7 hold by construction. -/
def Params.wf (p : Params) : Bool :=
  p.brdivFits
    && decide p.addr.toList.Nodup
    && p.layout.toList.all fieldsOk
    && p.targetFits
    && !p.signalUnit.isEmpty
    && decide (0 < p.unitRepeat)
    && !p.requireAck
    && decide (0 < p.carrierHz)
    && (p.paStage == 0b010#3 || p.paStage == 0b011#3)

end Sys2Proof
end

