-- ==== Sys2Proof/Machine/Ops.lean ====
section
/-!
DEFINITION. The shared operations: the register space held by the ideal device (spec/20_memory.md R40, R53),
the environment's draws (R52), the eight transactions (spec/45_transmission_loop.md R140 to R147), the abort
path a fatal error takes (R157, spec/60_exceptions.md R180) with block reset, the only way out of it, beside
it (spec/70_reset_and_hazards.md R190, R181), and runs of configuration writes (spec/42_config_sequencer.md R91).
-/

namespace Sys2Proof.Machine

/-! ## The register space (R40, R53) -/

/-- The byte listed at an address; `none` where no byte is known. -/
def Memory.read : List Host.Cell → Nat → Option Byte
  | [], _ => none
  | (a, b) :: cells, x => if a = x then some b else Memory.read cells x

/-- The byte at an address replaced, the list kept in rising order of address. -/
def Memory.write : List Host.Cell → Nat → Byte → List Host.Cell
  | [], x, v => [(x, v)]
  | (a, b) :: cells, x, v =>
    if x < a then (x, v) :: (a, b) :: cells
    else if x = a then (x, v) :: cells
    else (a, b) :: Memory.write cells x v

/-- The canonical form: addresses strictly rising and inside the register space 0x00 to 0xFF (R40). No entry
equals what an unlisted address reads as, since that is no known value (log entry 9). -/
def Memory.wf (cells : List Host.Cell) : Bool :=
  decide (cells.Pairwise (fun c d => c.1 < d.1)) && cells.all (fun c => decide (c.1 < 256))

/-- `dev[a]` (R53): the listed byte, else the unknown byte of this epoch (R36; log entry 9). -/
def State.devRead (s : State) (a : Nat) : Byte :=
  (Memory.read s.dev a).getD (Config.unknownByte s.devEpoch a)

/-! ## The environment's answers (R50, R52; log entry 4) -/

/-- The next answer: the next one already chosen, else a free value. -/
def State.nextDraw (s : State) : Draw :=
  match s.answers with
  | d :: _ => d
  | [] => ⟨Config.freeOk s.drawn, Config.freeByte s.drawn⟩

/-- The state after one answer has been used. -/
def State.dropDraw (s : State) : State :=
  { s with
    answers := s.answers.tail
    drawn := if s.answers.isEmpty then s.drawn + 1 else s.drawn }

/-- Ok or Err as the next answer has it. -/
def State.nextAnswer (s : State) : Answer :=
  if s.nextDraw.ok then .ok else .err

/-! ## The transactions (R140 to R147): request, answer, one event of TRACE -/

/-- The registers of the device at any value (R36, R197): nothing is known of them, in a new epoch. -/
def State.forgetDevice (s : State) : State :=
  { s with
    dev := []
    devEpoch := s.devEpoch + 1 }

/-- The device after ACQUIRE (R36, R140, U8): its registers hold any value. In the ideal device the byte of the
draw says whether they are the old ones (as the vectors P1 and P2 have them) or unknown (log entry 10). -/
def State.deviceAfterAcquire (s : State) : State :=
  match s.env with
  | .ideal => if s.nextDraw.byte = 0#8 then s else s.forgetDevice
  | .unconstrained => s

/-- ACQUIRE's transaction (R140). -/
def State.acquireTxn (s : State) : State :=
  { s.dropDraw with
    owned := s.owned || s.nextDraw.ok
    dev := s.deviceAfterAcquire.dev
    devEpoch := s.deviceAfterAcquire.devEpoch
    trace := s.trace ++ [.acquire s.nextAnswer] }

/-- RELEASE's transaction (R141): no answer, cannot fail. -/
def State.releaseTxn (s : State) : State :=
  { s with
    owned := false
    trace := s.trace ++ [.release] }

/-- RDREG's answer (R142): the ideal device never fails and returns `dev[a]` (R53); else a free draw (R52). -/
def State.readAnswer (s : State) (a : Byte) : ReadAnswer :=
  match s.env with
  | .ideal => .ok (s.devRead a.toNat)
  | .unconstrained => if s.nextDraw.ok then .ok s.nextDraw.byte else .ioError

/-- RDREG's transaction (R142, R45: no effect on the transceiver). -/
def State.rdregTxn (s : State) (a : Byte) : State :=
  { s with
    answers := if s.env = .ideal then s.answers else s.dropDraw.answers
    drawn := if s.env = .ideal then s.drawn else s.dropDraw.drawn
    trace := s.trace ++ [.rdreg a (s.readAnswer a)] }

/-- `dev` after WRREG (R53): an Ok write sets `dev[a]` to the value; a failed one leaves any value there (U4:
the byte of the draw). The unconstrained environment holds no `dev` (R52, P7). -/
def State.devAfterWrite (s : State) (a v : Byte) : List Host.Cell :=
  match s.env with
  | .ideal => Memory.write s.dev a.toNat (if s.nextDraw.ok then v else s.nextDraw.byte)
  | .unconstrained => s.dev

/-- WRREG's transaction (R143), without what a failure raises. -/
def State.wrregTxn (s : State) (a v : Byte) : State :=
  { s.dropDraw with
    dev := s.devAfterWrite a v
    trace := s.trace ++ [.wrreg a v s.nextAnswer] }

/-- `dev` after SETMODE, WAITRDY or SEND (R53): the mode register alone may hold any value (log entry 10). -/
def State.devAfterMode (s : State) : List Host.Cell :=
  match s.env with
  | .ideal => Memory.write s.dev (s.params.addrOf .opmode).toNat s.nextDraw.byte
  | .unconstrained => s.dev

/-- SETMODE's transaction (R144). -/
def State.setmodeTxn (s : State) (m : Mode) : State :=
  { s.dropDraw with
    dev := s.devAfterMode
    trace := s.trace ++ [.setmode m s.nextAnswer] }

/-- WAITRDY's transaction (R145, R199): always answered, true or false. -/
def State.waitrdyTxn (s : State) (t : Ticks) : State :=
  { s.dropDraw with
    dev := s.devAfterMode
    trace := s.trace ++ [.waitrdy t s.nextDraw.ok] }

/-- SEND's transaction (R146). -/
def State.sendTxn (s : State) (payload : List Byte) (attempts : Count) (requireAck : Bool) : State :=
  { s.dropDraw with
    dev := s.devAfterMode
    sendCalls := s.sendCalls + 1
    trace := s.trace ++ [.send payload attempts requireAck s.nextDraw.ok] }

/-- SLEEP's transaction (R147). -/
def State.sleepTxn (s : State) (d : Ticks) : State :=
  { s with
    elapsed := s.elapsed + d
    trace := s.trace ++ [.sleep d] }

/-! ## A fatal error: the abort path, and block reset -/

/-- A job's failed configuration leaves every register of the device at any value (R197, U3), in the ideal
device too; without a job in hand only the failed write's register is affected (R53; log entry 11). -/
def State.deviceAfterError (s : State) (e : FatalError) : State :=
  match e with
  | .writeFailed _ =>
    if s.owned = true ∧ s.env = .ideal then s.forgetDevice else s
  | .deviceUnavailable => s
  | .modeTimeout => s

/-- `if x[OWNED]: Release()` (R157). -/
def State.releaseIfOwned (s : State) : State :=
  if s.owned then s.releaseTxn else s

/-- The abort path (R157, R180): ERR holds the error, the device is released if it is held, RESULT is the
error, STATE is Aborted; STEP, K and TRACE are kept. -/
def State.abort (s : State) (e : FatalError) : State :=
  { (s.deviceAfterError e).releaseIfOwned with
    err := some e
    result := some (.err e)
    state := .aborted }

/-- Block reset (R190, R36): every register of the block at its reset value, every register of the device at
any value, no transaction issued. The environment and the parameters are not the block's and stay (log
entry 25). -/
def State.blockReset (s : State) : State :=
  { State.resetWith s.params with
    env := s.env
    dev := s.forgetDevice.dev
    devEpoch := s.forgetDevice.devEpoch
    answers := s.answers
    drawn := s.drawn }

/-! ## Transactions with what their failure raises (R9: `raise`)

Under the ideal device too the answers of ACQUIRE, SETMODE, WAITRDY and SEND are free draws: R53 does not say whether
they can fail there, and that they can is the model's choice (log entry 32, DESIGN CHOICE). -/

/-- `Acquire()` (R140); Err is possible under the ideal device too (log entry 32). -/
def State.acquire (s : State) : State :=
  if s.nextDraw.ok then s.acquireTxn else s.acquireTxn.abort .deviceUnavailable

/-- `SetMode(m)` (R144): a failure is WriteFailed(OPMODE) (D11), possible under the ideal device too (log entry
32). -/
def State.setMode (s : State) (m : Mode) : State :=
  if s.nextDraw.ok then s.setmodeTxn m else (s.setmodeTxn m).abort (.writeFailed .opmode)

/-- `WaitReady(t)` (R145); the wait can time out under the ideal device too (log entry 32). -/
def State.waitReady (s : State) (t : Ticks) : State :=
  if s.nextDraw.ok then s.waitrdyTxn t else (s.waitrdyTxn t).abort .modeTimeout

/-- `MemWrite(a, 1, v)` (R143), a failure reported under the given label. -/
def State.memWrite (s : State) (l : Label) (a v : Byte) : State :=
  if s.nextDraw.ok then s.wrregTxn a v else (s.wrregTxn a v).abort (.writeFailed l)

/-! ## Runs of configuration writes (R91, R102) -/

/-- How a run of configuration writes ended. -/
inductive WriteOutcome where
  /-- every write answered Ok -/
  | ok
  /-- this register's write answered Err (R102) -/
  | failed (l : Label)
  /-- FIELD_INSERT refused this register's byte (R83); not under well-formed parameters (R177) -/
  | fieldError (l : Label) (field : Byte)
  deriving DecidableEq, Repr

/-- The writes of a list of entries, in order, each one WRREG, stopping at the first that fails (R91, R102:
nothing is undone, nothing retried). -/
def State.writeEntries : List CfgEntry → State → WriteOutcome × State
  | [], s => (.ok, s)
  | e :: es, s =>
    match e.data with
    | .fieldError code => (.fieldError e.label code, s)
    | .byte b =>
      if s.nextDraw.ok then State.writeEntries es (s.wrregTxn (s.params.addrOf e.label) b)
      else (.failed e.label, s.wrregTxn (s.params.addrOf e.label) b)

/-- A configuration word executed: `MemWrite(addr, 1, data)` (R68), the address in bits 15:8 and the byte in bits
7:0; a failure is WriteFailed of the address's label (R143). -/
def State.execWord (s : State) (w : BitVec 16) : State :=
  s.memWrite (s.params.reportedLabel (w.extractLsb' 8 8)) (w.extractLsb' 8 8) (w.extractLsb' 0 8)

/-- A run of configuration writes with what its failure raises: WriteFailed takes the abort path (R102, R157);
a FieldError is returned to the caller (R177). -/
def State.runEntries (s : State) (es : List CfgEntry) : State :=
  match State.writeEntries es s with
  | (.ok, t) => t
  | (.failed l, t) => t.abort (.writeFailed l)
  | (.fieldError l code, t) => { t with ret := some (.fieldError (BitVec.ofNat 8 l.code.val) code) }

end Sys2Proof.Machine
end

