-- ==== Sys2Proof/Machine/Flags.lean ====
section
/-!
DEFINITION. The status latches of a job and what the host reads from them. The block has no condition
codes; its flags are DRY, DIAG, OWNED, ERR, RESULT, SEND_FAIL, SEND_CALLS, INSPECT_ERR and ELAPSED
(spec/10_state.md R14 to R18). The closed set of errors has the codes of spec/60_exceptions.md R170; the
host's view is spec/45_transmission_loop.md R158.
-/

namespace Sys2Proof.Machine

/-- The latching and clearing RUN does when it is accepted (R148, R14, R16, R18). -/
def State.clearJob (s : State) (diag dry : Bool) : State :=
  { s with
    dry := dry
    diag := diag
    step := 0
    k := 0#32
    err := none
    result := none
    sendFail := []
    sendCalls := 0
    inspectErr := none
    elapsed := 0
    report := []
    trace := [] }

/-- The finish path (R156): RELEASE, RESULT Ok, STATE Idle. -/
def State.finish (s : State) : State :=
  { s.releaseTxn with
    result := some .ok
    state := .idle }

/-- SendFailed(k) is recorded and nothing else (R155, R175). -/
def State.noteSend (s : State) (sent : Bool) : State :=
  if sent then s else { s with sendFail := s.sendFail ++ [s.k] }

/-- The closed set of errors (R170). -/
inductive ErrorKind where
  | none | deviceUnavailable | writeFailed | modeTimeout | readFailed | sendFailed
  | unknownRegister | fieldError
  deriving DecidableEq, Repr

/-- The code of an error (R170, D15). -/
def ErrorKind.errorCode : ErrorKind → Nat
  | .none => 0
  | .deviceUnavailable => 1
  | .writeFailed => 2
  | .modeTimeout => 3
  | .readFailed => 4
  | .sendFailed => 5
  | .unknownRegister => 6
  | .fieldError => 7

/-- The kind of a fatal error (R170). -/
def FatalError.kind : FatalError → ErrorKind
  | .deviceUnavailable => .deviceUnavailable
  | .writeFailed _ => .writeFailed
  | .modeTimeout => .modeTimeout

/-- success = (RESULT = Ok) (R158). -/
def State.success (s : State) : Bool :=
  s.result == some .ok

/-- The exit status: 0 when RESULT = Ok and 1 otherwise (R158, D15). -/
def State.exitStatus (s : State) : Nat :=
  if s.success then 0 else 1

/-- The structured result the host reads (R158). -/
structure HostResult where
  result     : Option JobResult
  report     : List ReportEntry
  inspectErr : Option InspectionError
  sendFail   : List Count
  sendCalls  : Nat
  elapsed    : Ticks
  deriving DecidableEq, Repr

/-- (RESULT, REPORT, INSPECT_ERR, SEND_FAIL, SEND_CALLS, ELAPSED) (R158). -/
def State.hostResult (s : State) : HostResult :=
  ⟨s.result, s.report, s.inspectErr, s.sendFail, s.sendCalls, s.elapsed⟩

end Sys2Proof.Machine
end

