-- ==== Sys2Proof/Machine/Bitfield.lean ====
section
/-!
DEFINITION. The pure functions of the block: DECODE, FIELD_VALUE, FIELD_INSERT (spec/41_bitfield_model.md R80
to R83) and ENCODE (spec/44_packet_encoder.md R130). They issue no transaction and write no internal register;
what they return to their caller stands in `ret` (log entry 12).
-/

namespace Sys2Proof.Machine

/-- What DECODE returns (R80, R82). -/
def decodeReturn (p : Params) (label raw : Byte) : Return :=
  match Label.ofCode? label with
  | none => .unknownRegister label
  | some l => .mapping (decodeFields (p.fieldsOf l) raw)

/-- What FIELD_VALUE returns (R81, R82). -/
def fieldValueReturn (p : Params) (label field raw : Byte) : Return :=
  match Label.ofCode? label with
  | none => .unknownRegister label
  | some l =>
    match fieldValue (p.fieldsOf l) field raw with
    | some v => .rawBits v
    | none => .fieldError label field

/-- What FIELD_INSERT returns (R83, R82). -/
def fieldInsertReturn (p : Params) (label : Byte) (vals : List (Byte × BitVec 16)) : Return :=
  match Label.ofCode? label with
  | none => .unknownRegister label
  | some l =>
    match insertAll (p.fieldsOf l) (vals.map (fun (f, v) => (f, v.toNat))) 0#8 with
    | .byte b => .byte b
    | .fieldError field => .fieldError label field

/-- DECODE (R80). -/
def execDecode (label raw : Byte) (s : State) : Host.Outcome State Fault Refusal :=
  .next { s with ret := some (decodeReturn s.params label raw) }

/-- FIELD_VALUE (R81). -/
def execFieldValue (label field raw : Byte) (s : State) : Host.Outcome State Fault Refusal :=
  .next { s with ret := some (fieldValueReturn s.params label field raw) }

/-- FIELD_INSERT (R83). -/
def execFieldInsert (label : Byte) (vals : List (Byte × BitVec 16)) (s : State) :
    Host.Outcome State Fault Refusal :=
  .next { s with ret := some (fieldInsertReturn s.params label vals) }

/-- ENCODE (R130). -/
def execEncode (s : State) : Host.Outcome State Fault Refusal :=
  .next { s with ret := some (.payload s.params.payload) }

end Sys2Proof.Machine
end

