-- ==== Sys2Proof/Machine/ConfigWords.lean ====
section
/-!
DEFINITION. The 14 configuration words (spec/30_encoding.md R68, spec/42_config_sequencer.md R101). A word is 8
address bits and 8 data bits, and executing it is `MemWrite(addr, 1, data)`: one WRREG of the word's own address
and byte, whatever ADDR and LAYOUT are. R68 writes the 14 words out, the parameter field each carries as its
operand.
-/

namespace Sys2Proof.Machine

/-- WR_FRF_MSB, entry 0: 0x07 ffffffff. -/
def execWrFrfMsb (f : Byte) (s : State) : Host.Outcome State Fault Refusal :=
  .next (s.execWord (0x07#8 ++ f))

/-- WR_FRF_MID, entry 1: 0x08 gggggggg. -/
def execWrFrfMid (g : Byte) (s : State) : Host.Outcome State Fault Refusal :=
  .next (s.execWord (0x08#8 ++ g))

/-- WR_FRF_LSB, entry 2: 0x09 hhhhhhhh. -/
def execWrFrfLsb (h : Byte) (s : State) : Host.Outcome State Fault Refusal :=
  .next (s.execWord (0x09#8 ++ h))

/-- WR_DATAMODUL, entry 3: 0x02 0x08. -/
def execWrDatamodul (s : State) : Host.Outcome State Fault Refusal :=
  .next (s.execWord 0x0208#16)

/-- WR_PACKET_CONFIG1, entry 4: 0x37 0x00. -/
def execWrPacketConfig1 (s : State) : Host.Outcome State Fault Refusal :=
  .next (s.execWord 0x3700#16)

/-- WR_PAYLOAD_LENGTH, entry 5: 0x38 0x00. -/
def execWrPayloadLength (s : State) : Host.Outcome State Fault Refusal :=
  .next (s.execWord 0x3800#16)

/-- WR_FIFO_THRESH, entry 6: 0x3C 1ttttttt. -/
def execWrFifoThresh (t : BitVec 7) (s : State) : Host.Outcome State Fault Refusal :=
  .next (s.execWord (0x3C#8 ++ 1#1 ++ t))

/-- WR_PREAMBLE_MSB, entry 7: 0x2C 0x00. -/
def execWrPreambleMsb (s : State) : Host.Outcome State Fault Refusal :=
  .next (s.execWord 0x2C00#16)

/-- WR_PREAMBLE_LSB, entry 8: 0x2D 0x00. -/
def execWrPreambleLsb (s : State) : Host.Outcome State Fault Refusal :=
  .next (s.execWord 0x2D00#16)

/-- WR_SYNC_CONFIG, entry 9: 0x2E 00sss000. -/
def execWrSyncConfig (n : BitVec 3) (s : State) : Host.Outcome State Fault Refusal :=
  .next (s.execWord (0x2E#8 ++ 0#2 ++ n ++ 0#3))

/-- WR_BITRATE_MSB, entry 10: 0x03 mmmmmmmm. -/
def execWrBitrateMsb (m : Byte) (s : State) : Host.Outcome State Fault Refusal :=
  .next (s.execWord (0x03#8 ++ m))

/-- WR_BITRATE_LSB, entry 11: 0x04 llllllll. -/
def execWrBitrateLsb (l : Byte) (s : State) : Host.Outcome State Fault Refusal :=
  .next (s.execWord (0x04#8 ++ l))

/-- WR_PA_LEVEL, entry 12: 0x11 aaappppp. -/
def execWrPaLevel (a : BitVec 3) (p : BitVec 5) (s : State) : Host.Outcome State Fault Refusal :=
  .next (s.execWord (0x11#8 ++ a ++ p))

/-- WR_OCP, entry 13: 0x13 0000cccc. -/
def execWrOcp (c : BitVec 4) (s : State) : Host.Outcome State Fault Refusal :=
  .next (s.execWord (0x13#8 ++ 0#4 ++ c))

end Sys2Proof.Machine
end

