-- ==== Sys2Proof/Machine/Inspector.lean ====
section
/-!
DEFINITION. The register inspector (spec/43_register_inspector.md R110 to R118): one RDREG per label in ascending
order of address, each followed by DECODE and the derived attributes due; it stops at the first failed read.
-/

namespace Sys2Proof.Machine

/-- The bytes of a group of registers, most significant register first (R42), when all have been read. -/
def groupBytes (seen : List (Label × Byte)) : List Label → Option (List Byte)
  | [] => some []
  | l :: ls =>
    match seen.lookup l, groupBytes seen ls with
    | some b, some bs => some (b :: bs)
    | _, _ => none

/-- The bit-rate pair (R22). -/
def bitrateGroup : List Label :=
  [.bitrateMsb, .bitrateLsb]

/-- The sync-word registers (R28). -/
def syncGroup : List Label :=
  [.syncValue1, .syncValue2, .syncValue3, .syncValue4, .syncValue5, .syncValue6, .syncValue7, .syncValue8]

/-- The AES-key registers (R32). -/
def aesGroup : List Label :=
  [.aesKey1, .aesKey2, .aesKey3, .aesKey4, .aesKey5, .aesKey6, .aesKey7, .aesKey8,
   .aesKey9, .aesKey10, .aesKey11, .aesKey12, .aesKey13, .aesKey14, .aesKey15, .aesKey16]

/-- The attribute of a group, due at the register of the group that is read last, when the whole group has
been read (R112, R115, R116, D14; log entry 16). `seen` holds the register just read. -/
def groupAttr (group : List Label) (mk : List Byte → ReportAttr) (l : Label) (seen : List (Label × Byte)) :
    List ReportAttr :=
  if group.contains l then
    match groupBytes seen group with
    | some bytes => [mk bytes]
    | none => []
  else []

/-- EffectiveBitRate (R112): the exact quotient, or `undefined` for a divisor 0 (D26, U14). -/
def bitRateAttr (fxoscHz : Nat) (bytes : List Byte) : ReportAttr :=
  ⟨.effectiveBitRate, if natBE bytes = 0 then .undefined else .quotient fxoscHz (natBE bytes), some .bps⟩

/-- SyncWord (R115): always the full 64 bits. -/
def syncWordAttr (bytes : List Byte) : ReportAttr :=
  ⟨.syncWord, .number (natBE bytes), none⟩

/-- AesKey (R116): 128 bits. -/
def aesKeyAttr (bytes : List Byte) : ReportAttr :=
  ⟨.aesKey, .number (natBE bytes), none⟩

/-- CurrentLimit (R114): 45 + 5 * OcpTrim mA, whatever OcpOn holds. -/
def currentLimitAttr (fields : List FieldDef) (l : Label) (raw : Byte) : List ReportAttr :=
  if l = .ocp then
    match fieldValue fields FieldName.ocpTrim.code raw with
    | some trim => [⟨.currentLimit, .number (45 + 5 * trim), some .milliamp⟩]
    | none => []
  else []

/-- The derived attributes due at a label (R112, R114 to R116). -/
def derivedAttrs (p : Params) (l : Label) (raw : Byte) (seen : List (Label × Byte)) : List ReportAttr :=
  groupAttr bitrateGroup (bitRateAttr p.fxoscHz) l seen
    ++ currentLimitAttr (p.fieldsOf l) l raw
    ++ groupAttr syncGroup syncWordAttr l seen
    ++ groupAttr aesGroup aesKeyAttr l seen

/-- One entry of the report (R110, R111). -/
def reportEntry (p : Params) (l : Label) (raw : Byte) (seen : List (Label × Byte)) : ReportEntry :=
  { register := l
    raw := raw
    attrs := (decodeFields (p.fieldsOf l) raw).map (fun (f, r) => ⟨.field f, .reading r, none⟩)
      ++ derivedAttrs p l raw seen }

/-- The loop of INSPECT over labels already in order (R110, R118). -/
def State.inspectLoop : List Label → List (Label × Byte) → State → State
  | [], _, s => s
  | l :: ls, seen, s =>
    match s.readAnswer (s.params.addrOf l) with
    | .ioError => { s.rdregTxn (s.params.addrOf l) with inspectErr := some (.readFailed l) }
    | .ok raw =>
      State.inspectLoop ls ((l, raw) :: seen)
        { s.rdregTxn (s.params.addrOf l) with
          report := s.report ++ [reportEntry s.params l raw ((l, raw) :: seen)] }

/-- A set of labels in ascending order of address (R110); a label the list repeats is in the set once. -/
def Params.byAddress (p : Params) (labels : List Label) : List Label :=
  sortByKey (fun l => (p.addrOf l).toNat) labels.dedup

/-- INSPECT(S) on modelled labels (R110). -/
def State.inspectLabels (s : State) (labels : List Label) : State :=
  State.inspectLoop (Params.byAddress s.params labels) [] { s with report := [], inspectErr := none }

/-- The modelled labels of a set, or a name in it that is outside the model (R110, R82). The spec does not say
which one UnknownRegisterError names when there are several: the first in the order given is the model's
(log entry 29, DESIGN CHOICE). -/
def resolveLabels : List Byte → Except Byte (List Label)
  | [] => .ok []
  | c :: cs =>
    match Label.ofCode? c with
    | none => .error c
    | some l =>
      match resolveLabels cs with
      | .ok ls => .ok (l :: ls)
      | .error e => .error e

/-- INSPECT (R110): an unknown label is refused before any read, by value and with no state change (R176). -/
def execInspect (labels : List Byte) (s : State) : Host.Outcome State Fault Refusal :=
  .next <|
    match resolveLabels labels with
    | .error c => { s with ret := some (.unknownRegister c) }
    | .ok ls => { s.inspectLabels ls with ret := some (.inspected (s.inspectLabels ls).inspectErr) }

end Sys2Proof.Machine
end

