-- ==== Sys2Proof/Machine/Loop.lean ====
section
/-!
DEFINITION. The host command RUN and the transmission state machine (spec/45_transmission_loop.md R148 to R157):
the action each control point names (spec/10_state.md R11). One action is one step (log entry 1).
-/

namespace Sys2Proof.Machine

/-- Idle -> Configuring, or Idle -> Aborted (R149). -/
def State.startJob (s : State) : State :=
  if s.nextDraw.ok then { s.acquire with state := .configuring, step := 0 } else s.acquire

/-- RUN (R148): accepted only in Idle; in any other state it is refused and changes nothing (R148, D19, V41b;
log entry 6). -/
def execRun (diag dry : Bool) (s : State) : Host.Outcome State Fault Refusal :=
  .next (if s.state = .idle then (s.clearJob diag dry).startJob else s)

/-- STEP moves on by exactly 1 (R11); it never passes 16. -/
def State.advanceStep (s : State) : State :=
  { s with step := ⟨min (s.step.val + 1) 16, by omega⟩ }

/-- A completed action of Configuring advances STEP; a failed one has taken the abort path and keeps it
(R150, R151, R180). -/
def State.advanceIf (s : State) (completed : Bool) : State :=
  if completed then s.advanceStep else s

/-- The action of Configuring at STEP (R150 to R152): the mode request, the mode wait, entry STEP - 2 of
CFGTABLE, and at STEP = 16 the transition to Ready. -/
def State.configAction (s : State) : State :=
  if s.step.val = 0 then (s.setMode .standby).advanceIf s.nextDraw.ok
  else if s.step.val = 1 then (s.waitReady s.params.maxWait).advanceIf s.nextDraw.ok
  else
    match s.params.cfgTable[s.step.val - 2]? with
    | some e => (s.runEntries [e]).advanceIf s.nextDraw.ok
    | none => { s with state := .ready }

/-- The optional inspection in Ready (R153). -/
def State.readyInspect (s : State) : State :=
  if s.diag then s.inspectLabels s.params.regsOfInterest else s

/-- Ready -> Sending(1), or Ready -> Idle when there is nothing to send (R153, R154). -/
def State.readyAction (s : State) : State :=
  if s.params.repeatCount = 0#32 then s.readyInspect.finish
  else { s.readyInspect with k := 1#32, state := .sending }

/-- The send of one iteration (R155): skipped in a dry run; a false answer is recorded. -/
def State.iterationSend (s : State) : State :=
  if s.dry then s
  else (s.sendTxn s.params.payload s.params.attemptsPerSend false).noteSend s.nextDraw.ok

/-- The delay of one iteration (R155): after every iteration but the last, and after the last under
TRAILING_DELAY. -/
def State.iterationSleep (s : State) : State :=
  if s.k.toNat < s.params.repeatCount.toNat ∨ s.params.trailingDelay then
    s.sleepTxn s.params.interPacketDelay
  else s

/-- Sending(k), one iteration (R155), for 1 <= k <= REPEAT_COUNT. -/
def State.sendAction (s : State) : State :=
  if s.k.toNat < s.params.repeatCount.toNat then
    { s.iterationSend.iterationSleep with k := s.k + 1#32 }
  else s.iterationSend.iterationSleep.finish

/-- The next action of the block, as its control point names it (R11, R162). In Idle and in Aborted there is
none: the block waits. -/
def State.action (s : State) : Host.Outcome State Fault Refusal :=
  match s.state with
  | .idle => .next s
  | .aborted => .next s
  | .configuring => .next s.configAction
  | .ready => .next s.readyAction
  | .sending =>
    if 1 ≤ s.k.toNat ∧ s.k.toNat ≤ s.params.repeatCount.toNat then .next s.sendAction
    else .fault .iterationOutOfRange

/-- A job is running (R12, R159). -/
def State.busy (s : State) : Bool :=
  match s.state with
  | .idle => false
  | .aborted => false
  | .configuring => true
  | .ready => true
  | .sending => true

/-- A request that stands for no operation is refused without effect: a command word by R65(e), D16 and U11
(log entry 6), the bytes of no operation of R66 in the same way (log entry 21). -/
def State.refuseRequest (s : State) : Host.Outcome State Fault Refusal :=
  .next s

/-- Block reset at the port (R190): between jobs only (log entry 7). -/
def State.resetRequest (s : State) : Host.Outcome State Fault Refusal :=
  if s.busy then .refused .resetDuringJob else .next s.blockReset

end Sys2Proof.Machine
end

