-- ==== Sys2Proof/Machine/Sequencer.lean ====
section
/-!
DEFINITION. The configuration sequencer: APPLY and its eight steps (spec/42_config_sequencer.md R91 to R99).
Every step is made of WRREG transactions and nothing else; the first failed write raises WriteFailed (R102).
-/

namespace Sys2Proof.Machine

/-- APPLY (R91): the 14 entries of CFGTABLE; its result Ok or Err(WriteFailed(L)) goes to its caller too. -/
def execApply (s : State) : Host.Outcome State Fault Refusal :=
  .next <|
    match State.writeEntries s.params.cfgTable s with
    | (.ok, t) => { t with ret := some (.applied .ok) }
    | (.failed l, t) => { t.abort (.writeFailed l) with ret := some (.applied (.err (.writeFailed l))) }
    | (.fieldError l code, t) => { t with ret := some (.fieldError (BitVec.ofNat 8 l.code.val) code) }

/-- CFG_FREQ, step 1 (R92). -/
def execCfgFreq (s : State) : Host.Outcome State Fault Refusal :=
  .next (s.runEntries (freqEntries s.params.target))

/-- CFG_DATAMODUL, step 2 (R93). -/
def execCfgDatamodul (s : State) : Host.Outcome State Fault Refusal :=
  .next (s.runEntries [datamodulEntry s.params s.params.target])

/-- CFG_PACKET, step 3 (R94). -/
def execCfgPacket (s : State) : Host.Outcome State Fault Refusal :=
  .next (s.runEntries [packetEntry s.params s.params.target])

/-- CFG_PAYLEN, step 4 (R95). -/
def execCfgPaylen (s : State) : Host.Outcome State Fault Refusal :=
  .next (s.runEntries [paylenEntry s.params.target])

/-- CFG_FIFO, step 5 (R96). -/
def execCfgFifo (s : State) : Host.Outcome State Fault Refusal :=
  .next (s.runEntries [fifoEntry s.params s.params.target])

/-- CFG_PREAMBLE_SYNC, step 6 (R97). -/
def execCfgPreambleSync (s : State) : Host.Outcome State Fault Refusal :=
  .next (s.runEntries (preambleSyncEntries s.params s.params.target))

/-- CFG_BITRATE, step 7 (R98). -/
def execCfgBitrate (s : State) : Host.Outcome State Fault Refusal :=
  .next (s.runEntries (bitrateEntries s.params.target))

/-- CFG_PA_OCP, step 8 (R99). -/
def execCfgPaOcp (s : State) : Host.Outcome State Fault Refusal :=
  .next (s.runEntries (paOcpEntries s.params s.params.target))

end Sys2Proof.Machine
end

