-- ==== Sys2Proof/Machine/Transactions.lean ====
section
/-!
DEFINITION. The eight transactions (spec/45_transmission_loop.md R140 to R147), each invoked on its own. A
failure raises the error its rule names, which takes the abort path (spec/00_scope.md R9); what RDREG and SEND
answer their caller stands in `ret` (log entries 12, 14).
-/

namespace Sys2Proof.Machine

/-- ACQUIRE (R140). -/
def execAcquire (s : State) : Host.Outcome State Fault Refusal :=
  .next s.acquire

/-- RELEASE (R141). -/
def execRelease (s : State) : Host.Outcome State Fault Refusal :=
  .next s.releaseTxn

/-- RDREG (R142): no exception is raised here; the caller sees the answer. -/
def execRdreg (a : Byte) (s : State) : Host.Outcome State Fault Refusal :=
  .next { s.rdregTxn a with ret := some (.readAnswer (s.readAnswer a)) }

/-- WRREG (R143): a failure is WriteFailed(label of a). -/
def execWrreg (a v : Byte) (s : State) : Host.Outcome State Fault Refusal :=
  .next (s.memWrite (s.params.reportedLabel a) a v)

/-- SETMODE (R144). -/
def execSetmode (m : Mode) (s : State) : Host.Outcome State Fault Refusal :=
  .next (s.setMode m)

/-- WAITRDY (R145). -/
def execWaitrdy (t : Ticks) (s : State) : Host.Outcome State Fault Refusal :=
  .next (s.waitReady t)

/-- SEND (R146): no exception is raised here; the caller sees the answer. -/
def execSend (payload : List Byte) (attempts : Count) (requireAck : Bool) (s : State) :
    Host.Outcome State Fault Refusal :=
  .next { s.sendTxn payload attempts requireAck with ret := some (.sendAnswer s.nextDraw.ok) }

/-- SLEEP (R147). -/
def execSleep (d : Ticks) (s : State) : Host.Outcome State Fault Refusal :=
  .next (s.sleepTxn d)

end Sys2Proof.Machine
end

