-- ==== Sys2Proof/Machine/Dispatch.lean ====
section
/-!
DEFINITION. The meaning of each operation (spec/30_encoding.md R66, R68), one arm per constructor of Instr.
-/

namespace Sys2Proof.Machine

def exec (i : Instr) (s : State) : Host.Outcome State Fault Refusal :=
  match i with
  | .decode label raw => Sys2Proof.Machine.execDecode label raw s
  | .fieldValue label field raw => Sys2Proof.Machine.execFieldValue label field raw s
  | .fieldInsert label vals => Sys2Proof.Machine.execFieldInsert label vals s
  | .encode => Sys2Proof.Machine.execEncode s
  | .run diag dry => Sys2Proof.Machine.execRun diag dry s
  | .apply => Sys2Proof.Machine.execApply s
  | .inspect labels => Sys2Proof.Machine.execInspect labels s
  | .cfgFreq => Sys2Proof.Machine.execCfgFreq s
  | .cfgDatamodul => Sys2Proof.Machine.execCfgDatamodul s
  | .cfgPacket => Sys2Proof.Machine.execCfgPacket s
  | .cfgPaylen => Sys2Proof.Machine.execCfgPaylen s
  | .cfgFifo => Sys2Proof.Machine.execCfgFifo s
  | .cfgPreambleSync => Sys2Proof.Machine.execCfgPreambleSync s
  | .cfgBitrate => Sys2Proof.Machine.execCfgBitrate s
  | .cfgPaOcp => Sys2Proof.Machine.execCfgPaOcp s
  | .wrFrfMsb f => Sys2Proof.Machine.execWrFrfMsb f s
  | .wrFrfMid g => Sys2Proof.Machine.execWrFrfMid g s
  | .wrFrfLsb h => Sys2Proof.Machine.execWrFrfLsb h s
  | .wrDatamodul => Sys2Proof.Machine.execWrDatamodul s
  | .wrPacketConfig1 => Sys2Proof.Machine.execWrPacketConfig1 s
  | .wrPayloadLength => Sys2Proof.Machine.execWrPayloadLength s
  | .wrFifoThresh t => Sys2Proof.Machine.execWrFifoThresh t s
  | .wrPreambleMsb => Sys2Proof.Machine.execWrPreambleMsb s
  | .wrPreambleLsb => Sys2Proof.Machine.execWrPreambleLsb s
  | .wrSyncConfig n => Sys2Proof.Machine.execWrSyncConfig n s
  | .wrBitrateMsb m => Sys2Proof.Machine.execWrBitrateMsb m s
  | .wrBitrateLsb l => Sys2Proof.Machine.execWrBitrateLsb l s
  | .wrPaLevel a p => Sys2Proof.Machine.execWrPaLevel a p s
  | .wrOcp c => Sys2Proof.Machine.execWrOcp c s
  | .acquire => Sys2Proof.Machine.execAcquire s
  | .release => Sys2Proof.Machine.execRelease s
  | .rdreg a => Sys2Proof.Machine.execRdreg a s
  | .wrreg a v => Sys2Proof.Machine.execWrreg a v s
  | .setmode m => Sys2Proof.Machine.execSetmode m s
  | .waitrdy t => Sys2Proof.Machine.execWaitrdy t s
  | .send payload attempts requireAck => Sys2Proof.Machine.execSend payload attempts requireAck s
  | .sleep d => Sys2Proof.Machine.execSleep d s

end Sys2Proof.Machine
end

