-- ==== Sys2Proof/Machine/Step.lean ====
section
/-!
DEFINITION. One step of the machine (spec/45_transmission_loop.md R162): the request at the port, if there is
one, else the action the control point names. Nothing asynchronous exists (spec/60_exceptions.md R178): a
request lands between two actions of the block.
-/

namespace Sys2Proof.Machine

/-- The request at the port is acted on: block reset (R190), or the operation it stands for; one that stands
for none is refused without effect. -/
def State.stepRequest (s : State) (r : Request) : Host.Outcome State Fault Refusal :=
  if r = .reset then s.resetRequest
  else
    match decodeRequest r with
    | .ok i => exec i s
    | .error _ => s.refuseRequest

/-- One step. Ill-formed parameters have no meaning (R7, U10). -/
def step (s : State) : Host.Outcome State Fault Refusal :=
  if s.params.wf then
    match s.port with
    | some r => State.stepRequest { s with port := none } r
    | none => s.action
  else .refused .illFormedParameters

/-- `s` with the instruction of spec/opcode_table.json whose bits are `w` at the port, so that the next step
runs exactly it (log entry 2). -/
def State.withFetchWord (s : State) (nbits w : Nat) : State :=
  { s with port := some (requestOfTableWord nbits w) }

end Sys2Proof.Machine
end

