-- ==== Sys2Proof/Safety.lean ====
section
/-!
DEFINITION. What claims about the block are stated in: the events of a configuration (spec/42_config_sequencer.md
R101, R103), the answers still to come (spec/20_memory.md R52), frames, and the invariants of a job
(spec/10_state.md R15 to R17, spec/45_transmission_loop.md R159 to R161, spec/70_reset_and_hazards.md R200).
-/

namespace Sys2Proof.Safety

open Sys2Proof.Machine

/-! ## The environment's answers -/

/-- The `i`-th answer still to come (R52): already chosen, or free. -/
def drawAt (s : State) (i : Nat) : Draw :=
  match s.answers[i]? with
  | some d => d
  | none => ⟨Config.freeOk (s.drawn + (i - s.answers.length)), Config.freeByte (s.drawn + (i - s.answers.length))⟩

/-- The next `n` answers are all Ok. -/
abbrev NextOk (s : State) (n : Nat) : Prop :=
  ∀ i, i < n → (drawAt s i).ok = true

/-- The next `n` answers are Ok and the one after them is not. -/
abbrev FailsAt (s : State) (n : Nat) : Prop :=
  NextOk s n ∧ (drawAt s n).ok = false

/-! ## Configuration writes (R92 to R101) -/

/-- The (register, byte) pairs that a step, or APPLY, writes under the default LAYOUT, as the tables of R92 to
R101 give them; `none` for any other operation. -/
def expectedWrites (p : Params) : Instr → Option (List (Label × Byte))
  | .cfgFreq =>
    some [(.frfMsb, BitVec.ofNat 8 (p.frfWord.toNat / 65536)), (.frfMid, BitVec.ofNat 8 (p.frfWord.toNat / 256)),
      (.frfLsb, BitVec.ofNat 8 p.frfWord.toNat)]
  | .cfgDatamodul => some [(.datamodul, 0x08#8)]
  | .cfgPacket => some [(.packetConfig1, 0x00#8)]
  | .cfgPaylen => some [(.payloadLength, 0x00#8)]
  | .cfgFifo => some [(.fifoThresh, BitVec.ofNat 8 (0x80 + p.fifoThreshold.toNat))]
  | .cfgPreambleSync =>
    some [(.preambleMsb, 0x00#8), (.preambleLsb, 0x00#8), (.syncConfig, BitVec.ofNat 8 (p.syncSizeField.toNat * 8))]
  | .cfgBitrate => some [(.bitrateMsb, BitVec.ofNat 8 (p.brdiv / 256)), (.bitrateLsb, BitVec.ofNat 8 p.brdiv)]
  | .cfgPaOcp =>
    some [(.paLevel, BitVec.ofNat 8 (p.paStage.toNat * 32 + p.outputPower.toNat)),
      (.ocp, BitVec.ofNat 8 p.ocpTrimCfg.toNat)]
  | .apply =>
    some [(.frfMsb, BitVec.ofNat 8 (p.frfWord.toNat / 65536)), (.frfMid, BitVec.ofNat 8 (p.frfWord.toNat / 256)),
      (.frfLsb, BitVec.ofNat 8 p.frfWord.toNat), (.datamodul, 0x08#8), (.packetConfig1, 0x00#8),
      (.payloadLength, 0x00#8), (.fifoThresh, BitVec.ofNat 8 (0x80 + p.fifoThreshold.toNat)),
      (.preambleMsb, 0x00#8), (.preambleLsb, 0x00#8), (.syncConfig, BitVec.ofNat 8 (p.syncSizeField.toNat * 8)),
      (.bitrateMsb, BitVec.ofNat 8 (p.brdiv / 256)), (.bitrateLsb, BitVec.ofNat 8 p.brdiv),
      (.paLevel, BitVec.ofNat 8 (p.paStage.toNat * 32 + p.outputPower.toNat)),
      (.ocp, BitVec.ofNat 8 p.ocpTrimCfg.toNat)]
  | .decode _ _ | .fieldValue _ _ _ | .fieldInsert _ _ | .encode | .run _ _ | .inspect _ => none
  | .wrFrfMsb _ | .wrFrfMid _ | .wrFrfLsb _ | .wrDatamodul | .wrPacketConfig1 | .wrPayloadLength => none
  | .wrFifoThresh _ | .wrPreambleMsb | .wrPreambleLsb | .wrSyncConfig _ | .wrBitrateMsb _ => none
  | .wrBitrateLsb _ | .wrPaLevel _ _ | .wrOcp _ => none
  | .acquire | .release | .rdreg _ | .wrreg _ _ | .setmode _ | .waitrdy _ | .send _ _ _ | .sleep _ => none

/-- The address and the byte of each of the 14 configuration words (R68); `none` for any other operation. -/
def wordOf : Instr → Option (Byte × Byte)
  | .wrFrfMsb f => some (0x07#8, f)
  | .wrFrfMid g => some (0x08#8, g)
  | .wrFrfLsb h => some (0x09#8, h)
  | .wrDatamodul => some (0x02#8, 0x08#8)
  | .wrPacketConfig1 => some (0x37#8, 0x00#8)
  | .wrPayloadLength => some (0x38#8, 0x00#8)
  | .wrFifoThresh t => some (0x3C#8, BitVec.ofNat 8 (0x80 + t.toNat))
  | .wrPreambleMsb => some (0x2C#8, 0x00#8)
  | .wrPreambleLsb => some (0x2D#8, 0x00#8)
  | .wrSyncConfig n => some (0x2E#8, BitVec.ofNat 8 (n.toNat * 8))
  | .wrBitrateMsb m => some (0x03#8, m)
  | .wrBitrateLsb l => some (0x04#8, l)
  | .wrPaLevel a q => some (0x11#8, BitVec.ofNat 8 (a.toNat * 32 + q.toNat))
  | .wrOcp c => some (0x13#8, BitVec.ofNat 8 c.toNat)
  | .decode _ _ | .fieldValue _ _ _ | .fieldInsert _ _ | .encode | .run _ _ | .inspect _ | .apply => none
  | .cfgFreq | .cfgDatamodul | .cfgPacket | .cfgPaylen => none
  | .cfgFifo | .cfgPreambleSync | .cfgBitrate | .cfgPaOcp => none
  | .acquire | .release | .rdreg _ | .wrreg _ _ | .setmode _ | .waitrdy _ | .send _ _ _ | .sleep _ => none

/-- The (register, byte) pairs CFGTABLE makes the block write (R101), under any LAYOUT. -/
def cfgWords (p : Params) : List (Label × Byte) :=
  p.cfgTable.filterMap (fun e => match e.data with | .byte b => some (e.label, b) | .fieldError _ => none)

/-- Which entries of CFGTABLE each of the eight steps writes (R92 to R99, R101), and APPLY (R91), under any
LAYOUT: the first entry and how many; `none` for any other operation. -/
def stepEntries : Instr → Option (Nat × Nat)
  | .cfgFreq => some (0, 3)
  | .cfgDatamodul => some (3, 1)
  | .cfgPacket => some (4, 1)
  | .cfgPaylen => some (5, 1)
  | .cfgFifo => some (6, 1)
  | .cfgPreambleSync => some (7, 3)
  | .cfgBitrate => some (10, 2)
  | .cfgPaOcp => some (12, 2)
  | .apply => some (0, 14)
  | .decode _ _ | .fieldValue _ _ _ | .fieldInsert _ _ | .encode | .run _ _ | .inspect _ => none
  | .wrFrfMsb _ | .wrFrfMid _ | .wrFrfLsb _ | .wrDatamodul | .wrPacketConfig1 | .wrPayloadLength => none
  | .wrFifoThresh _ | .wrPreambleMsb | .wrPreambleLsb | .wrSyncConfig _ | .wrBitrateMsb _ => none
  | .wrBitrateLsb _ | .wrPaLevel _ _ | .wrOcp _ => none
  | .acquire | .release | .rdreg _ | .wrreg _ _ | .setmode _ | .waitrdy _ | .send _ _ _ | .sleep _ => none

/-- The (register, byte) pairs that a step, or APPLY, writes under any LAYOUT. -/
def stepWrites (p : Params) (i : Instr) : Option (List (Label × Byte)) :=
  (stepEntries i).map (fun e => ((cfgWords p).drop e.1).take e.2)

/-- The field values TARGET gives the six registers made of fields (R93 to R99). -/
def targetFields (p : Params) : List (Label × List (FieldName × Nat)) :=
  [(.datamodul, [(.dataMode, 0), (.modulationType, 1), (.modulationShaping, 0)]),
   (.packetConfig1, [(.packetFormat, 0), (.dcFree, 0), (.crcOn, 0), (.crcAutoClearOff, 0), (.addressFiltering, 0)]),
   (.fifoThresh, [(.txStartCondition, 1), (.fifoThreshold, p.fifoThreshold.toNat)]),
   (.syncConfig, [(.syncOn, 0), (.fifoFillCondition, 0), (.syncSize, p.syncSizeField.toNat), (.syncTol, 0)]),
   (.paLevel, [(.pa0On, p.paStage.toNat / 4 % 2), (.pa1On, p.paStage.toNat / 2 % 2), (.pa2On, p.paStage.toNat % 2),
     (.outputPower, p.outputPower.toNat)]),
   (.ocp, [(.ocpOn, 0), (.ocpTrim, p.ocpTrimCfg.toNat)])]

/-- The byte TARGET gives a register that is written whole, or that is one byte of a wide value (R92, R95, R97,
R98). -/
def wholeBytes (p : Params) : List (Label × Byte) :=
  [(.frfMsb, BitVec.ofNat 8 (p.frfWord.toNat / 65536)), (.frfMid, BitVec.ofNat 8 (p.frfWord.toNat / 256)),
   (.frfLsb, BitVec.ofNat 8 p.frfWord.toNat), (.payloadLength, 0x00#8), (.preambleMsb, 0x00#8),
   (.preambleLsb, 0x00#8), (.bitrateMsb, BitVec.ofNat 8 (p.brdiv / 256)), (.bitrateLsb, BitVec.ofNat 8 p.brdiv)]

/-- The WRREG events of writes that were answered Ok (R103). -/
def writeEvents (p : Params) (ws : List (Label × Byte)) : List Event :=
  ws.map (fun w => .wrreg (p.addrOf w.1) w.2 .ok)

/-- The TRACE of a job whose configuration has come to STEP = n (R161): ACQUIRE, then the n actions done. -/
def configTrace (p : Params) (n : Nat) : List Event :=
  ([Event.acquire .ok, .setmode .standby .ok, .waitrdy p.maxWait true] ++ writeEvents p (cfgWords p)).take (n + 1)

/-- The action of Configuring at STEP = n when it fails (R150, R151): its error and its event. -/
def failedAction (p : Params) (n : Nat) : Option (FatalError × Event) :=
  match n with
  | 0 => some (.writeFailed .opmode, .setmode .standby .err)
  | 1 => some (.modeTimeout, .waitrdy p.maxWait false)
  | i + 2 => ((cfgWords p)[i]?).map (fun w => (.writeFailed w.1, .wrreg (p.addrOf w.1) w.2 .err))

/-- The events of the first n iterations of the loop (R155, R161), every SEND answered true. -/
def loopEvents (p : Params) (dry : Bool) (n : Nat) : List Event :=
  (List.range n).flatMap (fun i =>
    (if dry then [] else [.send p.payload p.attemptsPerSend false true])
      ++ (if i + 1 < p.repeatCount.toNat ∨ p.trailingDelay then [.sleep p.interPacketDelay] else []))

/-- An event with the answer of a SEND, which changes nothing in a job's course (R175), made true. -/
def unanswered : Event → Event
  | .send payload attempts requireAck _ => .send payload attempts requireAck true
  | .acquire a => .acquire a
  | .release => .release
  | .rdreg a r => .rdreg a r
  | .wrreg a v r => .wrreg a v r
  | .setmode m r => .setmode m r
  | .waitrdy d r => .waitrdy d r
  | .sleep d => .sleep d

/-! ## Counting events -/

/-- An RDREG event. -/
def isRead : Event → Bool
  | .rdreg _ _ => true
  | .acquire _ | .release | .wrreg _ _ _ | .setmode _ _ | .waitrdy _ _ | .send _ _ _ _ | .sleep _ => false

/-- An ACQUIRE event. -/
def isAcquire : Event → Bool
  | .acquire _ => true
  | .release | .rdreg _ _ | .wrreg _ _ _ | .setmode _ _ | .waitrdy _ _ | .send _ _ _ _ | .sleep _ => false

/-- A SEND event. -/
def isSend : Event → Bool
  | .send _ _ _ _ => true
  | .acquire _ | .release | .rdreg _ _ | .wrreg _ _ _ | .setmode _ _ | .waitrdy _ _ | .sleep _ => false

/-- The numbers of the SEND events answered false, in order, the first SEND having number `n` (R16): in a live job
SEND number k is that of iteration k. -/
def failedSends (n : Nat) : List Event → List Count
  | [] => []
  | .send _ _ _ true :: es => failedSends (n + 1) es
  | .send _ _ _ false :: es => BitVec.ofNat 32 n :: failedSends (n + 1) es
  | .acquire _ :: es => failedSends n es
  | .release :: es => failedSends n es
  | .rdreg _ _ :: es => failedSends n es
  | .wrreg _ _ _ :: es => failedSends n es
  | .setmode _ _ :: es => failedSends n es
  | .waitrdy _ _ :: es => failedSends n es
  | .sleep _ :: es => failedSends n es

/-- The ticks of a SLEEP event; 0 of any other. -/
def sleepTicks : Event → Ticks
  | .sleep d => d
  | .acquire _ | .release | .rdreg _ _ | .wrreg _ _ _ | .setmode _ _ | .waitrdy _ _ | .send _ _ _ _ => 0

/-- SEND_CALLS counts the SEND transactions of TRACE and ELAPSED sums its SLEEPs (R16, R17). -/
abbrev Accounting (s : State) : Prop :=
  s.sendCalls = s.trace.countP isSend ∧ s.elapsed = (s.trace.map sleepTicks).sum

/-! ## Frames -/

/-- The RELEASE of the abort path: issued exactly when the device is held (R141, R157). -/
def releaseEvents (s : State) : List Event :=
  if s.owned then [.release] else []

/-- Every register of the device reads as before (R45). -/
abbrev SameDevice (s t : State) : Prop :=
  ∀ a, t.devRead a = s.devRead a

/-- No register of the device has a known value any more: the next "any value" holds at every address (R36,
R197, U3, U8). -/
abbrev Indeterminate (s t : State) : Prop :=
  t.devEpoch = s.devEpoch + 1 ∧ ∀ a, t.devRead a = Config.unknownByte (s.devEpoch + 1) a

/-- `t` is `s` with these events appended to TRACE, and answers of the environment used; every register of
the block is unchanged. What `dev` reads afterwards is stated beside it. -/
abbrev OnlyTraced (s t : State) (events : List Event) : Prop :=
  t = { s with
    trace := s.trace ++ events
    answers := t.answers
    drawn := t.drawn
    dev := t.dev }

/-- `t` is `s` after the abort path (R157, R180): ERR and RESULT hold the error, STATE is Aborted, OWNED is
false, these events are appended to TRACE; STEP, K and every other register of the block are kept. -/
abbrev AbortsWith (s t : State) (e : FatalError) (events : List Event) : Prop :=
  t = { s with
    state := .aborted
    err := some e
    result := some (.err e)
    owned := false
    trace := s.trace ++ events
    answers := t.answers
    drawn := t.drawn
    dev := t.dev
    devEpoch := t.devEpoch }

/-- What one write of a byte to an address does (R143, R53, R157): an Ok write is one event, and in the ideal
device the byte; a failed one is one event and the abort path under the label of the address (log entries 13,
14), and where the device is not held no other address changes (log entry 11). -/
def WritesByte (s t : State) (a v : Byte) : Prop :=
  ((drawAt s 0).ok = true → OnlyTraced s t [.wrreg a v .ok] ∧
    (s.env = .ideal → t.devRead a.toNat = v) ∧
    (s.env = .unconstrained → SameDevice s t) ∧
    ∀ x, x ≠ a.toNat → t.devRead x = s.devRead x) ∧
  ((drawAt s 0).ok = false → ∃ l,
    AbortsWith s t (.writeFailed l) (.wrreg a v .err :: releaseEvents s) ∧
    (s.params.wf = true → ∀ l', s.params.addrOf l' = a → l = l') ∧
    (s.env = .unconstrained → SameDevice s t) ∧
    (s.owned = false → ∀ x, x ≠ a.toNat → t.devRead x = s.devRead x))

/-- What an operation made of configuration writes does (R91, R102, R103): with every answer Ok it appends one
WRREG event per write and leaves the bytes in the ideal device, and no other register of the device changes;
with the first failure at write j it appends the j Ok events and the failed one, and takes the abort path
under that register's label (log entry 14: also outside a job); without a job the writes before j stay, and in
a job that holds the ideal device no register has a known value (R197, log entry 11). -/
def WritesOrAborts (s t : State) (ws : List (Label × Byte)) : Prop :=
  (NextOk s ws.length →
    OnlyTraced s t (writeEvents s.params ws) ∧
    (s.env = .ideal → ∀ w ∈ ws, t.devRead (s.params.addrOf w.1).toNat = w.2) ∧
    (∀ x, (∀ w ∈ ws, (s.params.addrOf w.1).toNat ≠ x) → t.devRead x = s.devRead x)) ∧
  (∀ j w, ws[j]? = some w → FailsAt s j →
    AbortsWith s t (.writeFailed w.1)
      (writeEvents s.params (ws.take j) ++ [.wrreg (s.params.addrOf w.1) w.2 .err] ++
        releaseEvents s) ∧
    (s.owned = false → s.env = .ideal → ∀ w' ∈ ws.take j, t.devRead (s.params.addrOf w'.1).toNat = w'.2) ∧
    (s.owned = true → s.env = .ideal → Indeterminate s t) ∧
    (s.owned = false ∨ s.env = .unconstrained → ∀ x, (∀ w' ∈ ws.take (j + 1), (s.params.addrOf w'.1).toNat ≠ x) →
      t.devRead x = s.devRead x))

/-- The device after ACQUIRE (R36, R140; log entry 10): in the ideal device any value, in the unconstrained
environment no `dev` to speak of. -/
abbrev AcquiredDevice (s t : State) : Prop :=
  (s.env = .unconstrained → SameDevice s t) ∧ (s.env = .ideal → SameDevice s t ∨ Indeterminate s t)

/-! ## Readings and reports -/

/-- What DECODE gives for a raw value under a table (R80): the label, or unrecognized(v). -/
def readingIn (rows : List (Nat × ValueLabel)) (v : Nat) : FieldReading :=
  match rows.lookup v with
  | some l => .label l
  | none => .unrecognized v

/-- A derived attribute of a group of registers stands at `last` alone, exactly when every register of the group
has an entry, and is made of the bytes of those entries, most significant register first (R112, R115, R116). -/
def GroupReported (t : State) (group : List Label) (last : Label) (name : AttrName)
    (value : List Byte → ReportAttr) : Prop :=
  (∀ e ∈ t.report, ∀ a ∈ e.attrs, a.name = name →
    e.register = last ∧ ∀ l ∈ group, ∃ m ∈ t.report, m.register = l) ∧
  (∀ bytes : Label → Byte, (∀ l ∈ group, ∃ m ∈ t.report, m.register = l ∧ m.raw = bytes l) →
    ∃ e ∈ t.report, e.register = last ∧ value (group.map bytes) ∈ e.attrs)

/-! ## Invariants -/

/-- Nothing but the host's own inputs stands at the port (R162, R182: the host can issue RUN, and reset). -/
abbrev HostPort (s : State) : Prop :=
  ∀ r, s.port = some r → r = .reset ∨ ∃ w, r = .command w

/-- The delay of a whole loop (R160). -/
def loopDelay (p : Params) : Ticks :=
  (if p.trailingDelay then p.repeatCount.toNat else p.repeatCount.toNat - 1) * p.interPacketDelay

/-- What holds of the block in every state of a run: R11 to R17, R159, R161, R179, R200. -/
structure JobInv (s : State) : Prop where
  /-- the parameters are well formed (R7) -/
  wf : s.params.wf = true
  /-- the host issues RUN and reset only (R182) -/
  port : HostPort s
  /-- R17: whenever STATE is Idle or Aborted, OWNED is false -/
  released : s.state = .idle ∨ s.state = .aborted → s.owned = false
  /-- R17, R15: a running job holds the device and has neither error nor result -/
  running : s.busy = true → s.owned = true ∧ s.err = none ∧ s.result = none
  /-- R15, R157, R161, R141: in Aborted, ERR and RESULT hold one error, and TRACE is a failed ACQUIRE alone, or the
  actions done, the failed action at STEP, and one RELEASE -/
  failed : s.state = .aborted → ∃ e, s.err = some e ∧ s.result = some (.err e) ∧
    ((e = .deviceUnavailable ∧ s.step = 0 ∧ s.trace = [.acquire .err]) ∨
     ∃ event, failedAction s.params s.step.val = some (e, event) ∧
       s.trace = configTrace s.params s.step.val ++ [event, .release])
  /-- R15, R156: in Idle there is no error, and no result but Ok; without a result no job has run -/
  idle : s.state = .idle → s.err = none ∧ (s.result = none ∧ s.trace = [] ∨ s.result = some .ok)
  /-- R13, R16, R179: before the loop and in Aborted nothing has been sent, slept or inspected -/
  quiet : s.state = .configuring ∨ s.state = .aborted →
    s.k = 0#32 ∧ s.sendCalls = 0 ∧ s.sendFail = [] ∧ s.elapsed = 0 ∧ s.report = [] ∧ s.inspectErr = none
  /-- R161: in Configuring the TRACE is the actions done so far -/
  configuring : s.state = .configuring → s.trace = configTrace s.params s.step.val
  /-- R152: Ready is entered with every write done -/
  ready : s.state = .ready →
    s.step = 16 ∧ s.k = 0#32 ∧ s.sendCalls = 0 ∧ s.sendFail = [] ∧ s.elapsed = 0 ∧
    s.trace = configTrace s.params 16
  /-- R155, R161, R200: in Sending TRACE is the configuration, the reads of the inspection, and k - 1 iterations,
  which are counted -/
  sending : s.state = .sending →
    s.step = 16 ∧ 1 ≤ s.k.toNat ∧ s.k.toNat ≤ s.params.repeatCount.toNat ∧
    (∃ reads : List Event, reads.all isRead = true ∧ (s.diag = false → reads = []) ∧
      s.trace.map unanswered = configTrace s.params 16 ++ reads ++ loopEvents s.params s.dry (s.k.toNat - 1)) ∧
    s.sendCalls = (if s.dry then 0 else s.k.toNat - 1) ∧
    s.elapsed = (s.k.toNat - 1) * s.params.interPacketDelay ∧
    (∀ x ∈ s.sendFail, 1 ≤ x.toNat ∧ x.toNat < s.k.toNat) ∧ s.sendFail.length ≤ s.k.toNat - 1
  /-- R160, R161, R141: a finished job has run every iteration, and then one RELEASE -/
  finished : s.result = some .ok →
    s.state = .idle ∧ s.step = 16 ∧ s.k = s.params.repeatCount ∧
    (∃ reads : List Event, reads.all isRead = true ∧ (s.diag = false → reads = []) ∧
      s.trace.map unanswered = configTrace s.params 16 ++ reads
        ++ loopEvents s.params s.dry s.params.repeatCount.toNat ++ [.release]) ∧
    s.sendCalls = (if s.dry then 0 else s.params.repeatCount.toNat) ∧
    s.elapsed = loopDelay s.params ∧
    (∀ x ∈ s.sendFail, 1 ≤ x.toNat ∧ x.toNat ≤ s.params.repeatCount.toNat) ∧
    s.sendFail.length ≤ s.params.repeatCount.toNat
  /-- R16: SEND_FAIL lists exactly the iterations whose SEND was answered false, strictly increasing, and is empty in
  a dry run -/
  sendFail : s.sendFail = failedSends 1 s.trace ∧ s.sendFail.Pairwise (fun x y => x.toNat < y.toNat) ∧ (s.dry = true → s.sendFail = [])

/-- `dev` is in its canonical form (R40). -/
abbrev DeviceInv (s : State) : Prop :=
  Memory.wf s.dev = true

/-- The state a run of the machine is in after `n` steps, if it has not stopped. -/
abbrev After (s : State) (n : Nat) (t : State) : Prop :=
  Sys2Proof.core.run n s = .next t

end Sys2Proof.Safety
end

