-- ==== Sys2Proof/Certificates/Slice0/Obligations.lean ====
section
/-!
DEFINITION. The statements about the block. Each docstring names the rules of spec/ it formalises.
-/

open Sys2Proof Sys2Proof.Machine Sys2Proof.Safety

/-! ## Fields, decode tables, encodings -/

/-- R84 of the default LAYOUT: whatever field chooses it, no two raw values of a decode table share a label, and no
raw value has two labels. -/
def Obligations.DecodeTablesAreInjective : Prop :=
  ∀ (l : Label) (selector : Option Nat) (rows : List (Nat × ValueLabel)), ∀ d ∈ Params.p0.fieldsOf l,
    d.table.rows selector = some rows → (rows.map Prod.fst).Nodup ∧ (rows.map Prod.snd).Nodup

/-- R60: extraction undoes insertion of a value that fits, and insertion leaves every other bit alone. -/
def Obligations.FieldInsertThenExtract : Prop :=
  ∀ (b : Byte) (high low v : Nat), low ≤ high → high ≤ 7 → v < 2 ^ (high - low + 1) →
    extractField (insertField b high low v) high low = v ∧
    ∀ i, i < 8 → i < low ∨ high < i → (insertField b high low v).getLsbD i = b.getLsbD i

/-- R85: a byte decoded and re-encoded is the byte with its unused bits 0, which decodes alike; it is the byte
itself exactly when the unused bits were 0. -/
def Obligations.BitfieldRoundTrip : Prop :=
  ∀ (p : Params) (l : Label) (raw : Byte), p.wf = true →
    encodeMapping (p.fieldsOf l) (decodeFields (p.fieldsOf l) raw)
      = some (.byte (raw &&& usedBits (p.fieldsOf l))) ∧
    decodeFields (p.fieldsOf l) (raw &&& usedBits (p.fieldsOf l)) = decodeFields (p.fieldsOf l) raw ∧
    (encodeMapping (p.fieldsOf l) (decodeFields (p.fieldsOf l) raw) = some (.byte raw) ↔
      raw &&& ~~~usedBits (p.fieldsOf l) = 0#8)

/-- R85 of the default LAYOUT (general knowledge, log entry 18): USED of every register. -/
def Obligations.UsedBitsOfDefaultLayout : Prop :=
  ∀ l : Label, usedBits (Params.p0.fieldsOf l) =
    match l with
    | .opmode => 0xFC#8
    | .datamodul => 0x7B#8
    | .ocp => 0x1F#8
    | .packetConfig1 => 0xFE#8
    | _ => 0xFF#8

/-- R80: DECODE gives one entry per field, in descending order of the fields' bits: a number where LAYOUT gives the
field no table, else a label of its table or unrecognized(v); a table chosen by another field is chosen by the
raw value of that field in the same byte (R21). Of a label outside the model, UnknownRegisterError. Nothing but
the returned value changes. -/
def Obligations.DecodeReadsEveryField : Prop :=
  ∀ (s : State) (c raw : Byte), s.params.wf = true →
    (∀ l, Label.ofCode? c = some l →
      ∃ ds : List FieldDef, ds.Perm (s.params.fieldsOf l) ∧ ds.Pairwise (fun d e => e.high < d.high) ∧
        exec (.decode c raw) s = .next { s with
          ret := some (.mapping (ds.map (fun d => (d.name,
            match d.table with
            | .number => .number (raw.toNat / 2 ^ d.low % 2 ^ (d.high - d.low + 1))
            | .fixed rows => readingIn rows (raw.toNat / 2 ^ d.low % 2 ^ (d.high - d.low + 1))
            | .chosenBy name tables otherwise =>
              readingIn
                (match (s.params.fieldsOf l).find? (fun e => e.name == name) with
                | some e => (tables.lookup (raw.toNat / 2 ^ e.low % 2 ^ (e.high - e.low + 1))).getD otherwise
                | none => otherwise)
                (raw.toNat / 2 ^ d.low % 2 ^ (d.high - d.low + 1)))))) }) ∧
    (Label.ofCode? c = none → exec (.decode c raw) s = .next { s with ret := some (.unknownRegister c) })

/-- R82, R110, R176: a label outside the model is an error returned to the caller, before any read; no state of the
block changes. Of several such labels in INSPECT's set the error names the first in the order given, which is the
model's choice (log entry 29). -/
def Obligations.UnknownLabelIsReturned : Prop :=
  ∀ (s : State) (c : Byte), Label.ofCode? c = none →
    (∀ raw, exec (.decode c raw) s = .next { s with ret := some (.unknownRegister c) }) ∧
    (∀ f raw, exec (.fieldValue c f raw) s = .next { s with ret := some (.unknownRegister c) }) ∧
    (∀ vals, exec (.fieldInsert c vals) s = .next { s with ret := some (.unknownRegister c) }) ∧
    (∀ known others, (∀ x ∈ known, (Label.ofCode? x).isSome = true) →
      exec (.inspect (known ++ c :: others)) s = .next { s with ret := some (.unknownRegister c) })

/-- R81: FIELD_VALUE returns raw[high:low] of the named field; a name the register lacks is FieldError. -/
def Obligations.FieldValueIsTheSlice : Prop :=
  ∀ (s : State) (c f raw : Byte), s.params.wf = true →
    (∀ l, Label.ofCode? c = some l →
      (∀ d ∈ s.params.fieldsOf l, d.name.code = f →
        exec (.fieldValue c f raw) s = .next { s with
          ret := some (.rawBits (raw.toNat / 2 ^ d.low % 2 ^ (d.high - d.low + 1))) }) ∧
      ((∀ d ∈ s.params.fieldsOf l, d.name.code ≠ f) →
        exec (.fieldValue c f raw) s = .next { s with ret := some (.fieldError c f) })) ∧
    (Label.ofCode? c = none → exec (.fieldValue c f raw) s = .next { s with ret := some (.unknownRegister c) })

/-- R83: FIELD_INSERT returns the byte that holds the named values, 0 in every other field and in every unused
bit; a name the register lacks, or a value that does not fit, is FieldError. Of several such pairs the error names
the first in the order given, which is the model's choice (log entry 30). -/
def Obligations.FieldInsertComposes : Prop :=
  ∀ (s : State) (c : Byte) (vals : List (Byte × BitVec 16)), s.params.wf = true →
    (∀ l, Label.ofCode? c = some l →
      ((vals.map Prod.fst).Nodup →
        (∀ w ∈ vals, ∃ d ∈ s.params.fieldsOf l, d.name.code = w.1 ∧ w.2.toNat < 2 ^ (d.high - d.low + 1)) →
        ∃ b : Byte, exec (.fieldInsert c vals) s = .next { s with ret := some (.byte b) } ∧
          (∀ d ∈ s.params.fieldsOf l,
            extractField b d.high d.low = ((vals.lookup d.name.code).map BitVec.toNat).getD 0) ∧
          b &&& ~~~usedBits (s.params.fieldsOf l) = 0#8) ∧
      (∀ fits f v others, vals = fits ++ (f, v) :: others →
        (∀ w ∈ fits, ∃ d ∈ s.params.fieldsOf l, d.name.code = w.1 ∧ w.2.toNat < 2 ^ (d.high - d.low + 1)) →
        (∀ d ∈ s.params.fieldsOf l, d.name.code = f → 2 ^ (d.high - d.low + 1) ≤ v.toNat) →
        exec (.fieldInsert c vals) s = .next { s with ret := some (.fieldError c f) })) ∧
    (Label.ofCode? c = none → exec (.fieldInsert c vals) s = .next { s with ret := some (.unknownRegister c) })

/-- R130: ENCODE returns UNIT_REPEAT copies of UNIT, whatever else the state holds. -/
def Obligations.EncodeReturnsRepeatedUnit : Prop :=
  ∀ s : State, ∃ payload : List Byte,
    exec .encode s = .next { s with ret := some (.payload payload) } ∧
    payload.length = s.params.signalUnit.length * s.params.unitRepeat ∧
    (∀ i, i < payload.length → payload[i]? = s.params.signalUnit[i % s.params.signalUnit.length]?) ∧
    (∀ t : State, t.params = s.params → exec .encode t = .next { t with ret := some (.payload payload) })

/-- R66 to R70 with the model's operand bytes (log entry 3): decoding the request that carries a well-formed
operation gives it back. -/
def Obligations.RequestRoundTrip : Prop :=
  ∀ i : Instr, i.wellFormed = true → decodeRequest (encodeRequest i) = .ok i

/-- R67: the command words are 0x10 to 0x13, diag in bit 1 and dry in bit 0; every other word is refused. -/
def Obligations.CommandWordsAreRun : Prop :=
  ∀ (w : Byte) (i : Instr), decodeRequest (.command w) = .ok i ↔
    ∃ diag dry, i = .run diag dry ∧ w.toNat = 0x10 + (if diag then 2 else 0) + (if dry then 1 else 0)

/-- R66, R67, R68, R143: words written out from the spec's tables decode to what they stand for. As the bytes of
a table word 0x11 and 0x12 are read as APPLY and INSPECT, though R67 makes RUN words of them too: the model's
choice (log entry 2); the operands of 0x01, 0x12 and 0x33, which the table gives no bits, are the model's bytes,
here zeros (log entry 3). -/
def Obligations.SpecWordsDecode : Prop :=
  decodeTableWord 8 0x01 = some (.decode 0 0) ∧ decodeTableWord 8 0x04 = some .encode ∧
  decodeTableWord 8 0x10 = some (.run false false) ∧ decodeTableWord 8 0x11 = some .apply ∧
  decodeTableWord 8 0x12 = some (.inspect []) ∧ decodeTableWord 8 0x28 = some .cfgPaOcp ∧
  decodeTableWord 8 0x33 = some (.wrreg 0 0) ∧ decodeTableWord 16 0x076C = some (.wrFrfMsb 0x6C#8) ∧
  decodeTableWord 16 0x0208 = some .wrDatamodul ∧ decodeTableWord 16 0x3C8F = some (.wrFifoThresh 15#7) ∧
  decodeTableWord 16 0x2E38 = some (.wrSyncConfig 7#3) ∧ decodeTableWord 16 0x117F = some (.wrPaLevel 3#3 31#5) ∧
  decodeTableWord 16 0x130F = some (.wrOcp 0xF#4) ∧ decodeTableWord 16 0x3C0F = some (.wrreg 0x3C#8 0x0F#8) ∧ decodeTableWord 8 0x14 = none

/-- R62: a wide value of n bytes is split most significant byte first, and assembling the bytes gives it back. -/
def Obligations.WideValuesSplitAndAssemble : Prop :=
  ∀ n v : Nat, v < 2 ^ (8 * n) →
    (bytesBE n v).length = n ∧ natBE (bytesBE n v) = v ∧
    ∀ i, i < n → (bytesBE n v)[i]? = some (BitVec.ofNat 8 (v / 2 ^ (8 * (n - 1 - i)) % 256))

/-! ## The step, the host's inputs -/

/-- R162 and log entry 2: the operation at the port is taken off it and run, by the same `exec`; `withFetchWord`
places it. -/
def Obligations.StepRunsPortOperation : Prop :=
  ∀ (s : State) (i : Instr), s.params.wf = true →
    (∀ r, s.port = some r → decodeRequest r = .ok i → step s = exec i { s with port := none }) ∧
    (∀ nbits w, decodeTableWord nbits w = some i → step (s.withFetchWord nbits w) = exec i { s with port := none })

/-- R65(e), R67, R148, D16, D19: a command word other than 0x10 to 0x13, and any command word outside Idle, leaves
the block in its state; only the port is emptied. The same holds of bytes that are no operation of R66, which is
the model's choice (log entry 21). -/
def Obligations.RefusedCommandChangesNothing : Prop :=
  ∀ s : State, s.params.wf = true →
    (∀ w : Byte, s.port = some (.command w) → (w.toNat < 0x10 ∨ 0x13 < w.toNat ∨ s.state ≠ .idle) →
      step s = .next { s with port := none }) ∧
    (∀ bytes e, s.port = some (.operation bytes) → decodeRequest (.operation bytes) = .error e →
      step s = .next { s with port := none })

/-- R190, R36: block reset between jobs puts every register of the block at its reset value and issues no
transaction; every register of the device holds any value afterwards. The parameters, the environment's model and
its answers stay (log entry 25). During a job it is outside the model (U17, log entry 7). -/
def Obligations.BlockResetValues : Prop :=
  ∀ s : State, s.params.wf = true → s.port = some .reset →
    (s.state = .idle ∨ s.state = .aborted →
      ∃ t, step s = .next t ∧ t.state = .idle ∧ t.step = 0 ∧ t.k = 0#32 ∧ t.dry = false ∧ t.diag = false ∧
        t.owned = false ∧ t.err = none ∧ t.result = none ∧ t.sendFail = [] ∧ t.sendCalls = 0 ∧
        t.inspectErr = none ∧ t.elapsed = 0 ∧ t.report = [] ∧ t.trace = [] ∧ t.port = none ∧
        t.params = s.params ∧ t.env = s.env ∧ t.answers = s.answers ∧ t.drawn = s.drawn ∧ Indeterminate s t) ∧
    (s.state = .configuring ∨ s.state = .ready ∨ s.state = .sending → step s = .refused .resetDuringJob)

/-- R36: the state after reset, under any parameters (`State.reset` takes P0, log entry 5). -/
def Obligations.ResetStateValues : Prop :=
  State.reset = State.resetWith Params.p0 ∧
  ∀ p : Params, (State.resetWith p).params = p ∧ (State.resetWith p).state = .idle ∧ (State.resetWith p).step = 0 ∧
    (State.resetWith p).k = 0#32 ∧ (State.resetWith p).dry = false ∧ (State.resetWith p).diag = false ∧
    (State.resetWith p).owned = false ∧ (State.resetWith p).err = none ∧ (State.resetWith p).result = none ∧
    (State.resetWith p).sendFail = [] ∧ (State.resetWith p).sendCalls = 0 ∧
    (State.resetWith p).inspectErr = none ∧ (State.resetWith p).elapsed = 0 ∧ (State.resetWith p).report = [] ∧
    (State.resetWith p).trace = [] ∧
    ∀ a, (State.resetWith p).devRead a = Config.unknownByte (State.resetWith p).devEpoch a

/-- R6, R7, R99, U10: an ill-formed parameter assignment has no meaning: no step is taken under it. That the three
frequencies and rates of R6 are positive is a check of the model (log entry 8). -/
def Obligations.IllFormedParametersRefused : Prop :=
  ∀ s : State, (s.params.brdiv = 0 ∨ 0xFFFF < s.params.brdiv ∨ ¬s.params.addr.toList.Nodup ∨
      s.params.fxoscHz = 0 ∨ s.params.bitRateBps = 0 ∨ s.params.carrierHz = 0 ∨
      s.params.signalUnit = [] ∨ s.params.unitRepeat = 0 ∨ s.params.requireAck = true ∨
      (s.params.paStage ≠ 0b010#3 ∧ s.params.paStage ≠ 0b011#3) ∨
      (∃ l, ∃ d ∈ s.params.fieldsOf l, d.high < d.low ∨ 7 < d.high) ∨
      (∃ l, ¬(s.params.fieldsOf l).Pairwise (fun d e => d.high < e.low ∨ e.high < d.low))) →
    step s = .refused .illFormedParameters

/-- R148, R149: RUN in Idle latches DRY and DIAG, clears the job's registers and issues ACQUIRE: on Ok the job
is in Configuring with the device held, on Err it is Aborted with DeviceUnavailable and no other transaction.
In any other state RUN is refused and changes nothing. After ACQUIRE the device's registers hold any value (R36);
how the ideal device shows it is log entry 10. -/
def Obligations.RunStartsJob : Prop :=
  ∀ (s : State) (diag dry : Bool),
    (s.state = .idle → s.owned = false →
      ∃ t, exec (.run diag dry) s = .next t ∧ AcquiredDevice s t ∧
        ((drawAt s 0).ok = true → t = { s with
          state := .configuring
          step := 0
          k := 0#32
          dry := dry
          diag := diag
          owned := true
          err := none
          result := none
          sendFail := []
          sendCalls := 0
          inspectErr := none
          elapsed := 0
          report := []
          trace := [.acquire .ok]
          answers := t.answers
          drawn := t.drawn
          dev := t.dev
          devEpoch := t.devEpoch }) ∧
        ((drawAt s 0).ok = false → t = { s with
          state := .aborted
          step := 0
          k := 0#32
          dry := dry
          diag := diag
          owned := false
          err := some .deviceUnavailable
          result := some (.err .deviceUnavailable)
          sendFail := []
          sendCalls := 0
          inspectErr := none
          elapsed := 0
          report := []
          trace := [.acquire .err]
          answers := t.answers
          drawn := t.drawn
          dev := t.dev
          devEpoch := t.devEpoch })) ∧
    (s.state ≠ .idle → exec (.run diag dry) s = .next s)

/-! ## Transactions -/

/-- R140, R171: ACQUIRE holds the device, or aborts with DeviceUnavailable, also outside a job (log entry 14); the
device's registers hold any value afterwards (R36; in the ideal device the old ones or unknown ones, log
entry 10). -/
def Obligations.AcquireTakesOrAborts : Prop :=
  ∀ s : State, ∃ t, exec .acquire s = .next t ∧ AcquiredDevice s t ∧
    ((drawAt s 0).ok = true → OnlyTraced { s with
        owned := true
        devEpoch := t.devEpoch } t [.acquire .ok]) ∧
    ((drawAt s 0).ok = false → AbortsWith s t .deviceUnavailable (.acquire .err :: releaseEvents s))

/-- R141: RELEASE has no answer and cannot fail: OWNED is false, one event is traced, nothing else changes. That
the device's registers stay too, where R141 has it return to a standby state, is the model's choice (log
entry 10). -/
def Obligations.ReleaseGivesDeviceBack : Prop :=
  ∀ s : State, exec .release s = .next { s with
    owned := false
    trace := s.trace ++ [.release] }

/-- R142, R45, R53: RDREG reads one byte or fails; it changes no register of the device; the ideal device never
fails and returns `dev[a]`. -/
def Obligations.RdregReadsOneByte : Prop :=
  ∀ (s : State) (a : Byte), ∃ t r, exec (.rdreg a) s = .next t ∧ SameDevice s t ∧
    OnlyTraced { s with ret := some (.readAnswer r) } t [.rdreg a r] ∧
    (s.env = .ideal → r = .ok (s.devRead a.toNat)) ∧
    (s.env = .unconstrained → (drawAt s 0).ok = true → r = .ok (drawAt s 0).byte) ∧
    (s.env = .unconstrained → (drawAt s 0).ok = false → r = .ioError)

/-- R143, R53, R157: WRREG writes one byte at one address, or aborts with WriteFailed of the address's label; in the
ideal device an Ok write is read back and no other address changes. That a failure aborts also outside a job, that
a failed write inside one may change every register, and the label of an address outside ADDR are the model's
choices (log entries 14, 11, 13). -/
def Obligations.WrregWritesOneByte : Prop :=
  ∀ (s : State) (a v : Byte), ∃ t, exec (.wrreg a v) s = .next t ∧ WritesByte s t a v

/-- R197, U3: after a job that fails at a configuration write or at the mode request, no register of the ideal
device has a known value. The same of every operation made of such actions while the device is held: WRREG,
SETMODE, the 14 words, the eight steps and APPLY. That OWNED tells a job's failure from a lone one is the model's
reading (log entry 11). -/
def Obligations.FailedConfigurationIsIndeterminate : Prop :=
  ∀ s : State, s.owned = true → s.env = .ideal →
    (s.params.wf = true → s.port = none → s.state = .configuring → s.step.val ≠ 1 → s.step.val ≠ 16 →
      (drawAt s 0).ok = false → ∃ t, step s = .next t ∧ t.state = .aborted ∧ Indeterminate s t) ∧
    ((drawAt s 0).ok = false →
      (∀ a v, ∃ t, exec (.wrreg a v) s = .next t ∧ Indeterminate s t) ∧
      (∀ m, ∃ t, exec (.setmode m) s = .next t ∧ Indeterminate s t) ∧
      (∀ i w, wordOf i = some w → ∃ t, exec i s = .next t ∧ Indeterminate s t)) ∧
    (s.params.wf = true → ∀ i ws j, stepWrites s.params i = some ws → j < ws.length → FailsAt s j →
      ∃ t, exec i s = .next t ∧ Indeterminate s t)

/-- R144, R53: SETMODE is one event, or aborts with WriteFailed(OPMODE), also outside a job (log entry 14); at most
the mode register changes. R53 says so of the addresses of ADDR; of the others it is the model's choice (log
entry 10). -/
def Obligations.SetmodeRequestsMode : Prop :=
  ∀ (s : State) (m : Mode), ∃ t, exec (.setmode m) s = .next t ∧
    ((drawAt s 0).ok = true → OnlyTraced s t [.setmode m .ok] ∧
      (∀ x, x ≠ (s.params.addrOf .opmode).toNat ∨ s.env = .unconstrained → t.devRead x = s.devRead x)) ∧
    ((drawAt s 0).ok = false → AbortsWith s t (.writeFailed .opmode) (.setmode m .err :: releaseEvents s) ∧
      (s.env = .unconstrained → SameDevice s t) ∧
      (s.owned = false → ∀ x, x ≠ (s.params.addrOf .opmode).toNat → t.devRead x = s.devRead x))

/-- R145, R173, R199: WAITRDY is always answered: true is one event, false aborts with ModeTimeout, also outside a
job (log entry 14); at most the mode register changes. R53 says so of the addresses of ADDR; of the others, and
across the RELEASE of the abort path, it is the model's choice (log entry 10). -/
def Obligations.WaitrdyAlwaysAnswers : Prop :=
  ∀ (s : State) (d : Ticks), ∃ t, exec (.waitrdy d) s = .next t ∧
    (∀ x, x ≠ (s.params.addrOf .opmode).toNat ∨ s.env = .unconstrained → t.devRead x = s.devRead x) ∧
    ((drawAt s 0).ok = true → OnlyTraced s t [.waitrdy d true]) ∧
    ((drawAt s 0).ok = false → AbortsWith s t .modeTimeout (.waitrdy d false :: releaseEvents s))

/-- R146, R53: SEND is one event and one more send call, whatever the answer; it raises nothing; at most the
mode register changes. R53 says so of the addresses of ADDR; of the others it is the model's choice (log
entry 10). -/
def Obligations.SendCountsOneCall : Prop :=
  ∀ (s : State) (payload : List Byte) (attempts : Count) (ack : Bool),
    ∃ t, exec (.send payload attempts ack) s = .next t ∧
      OnlyTraced { s with
        sendCalls := s.sendCalls + 1
        ret := some (.sendAnswer (drawAt s 0).ok) } t [.send payload attempts ack (drawAt s 0).ok] ∧
      (∀ x, x ≠ (s.params.addrOf .opmode).toNat ∨ s.env = .unconstrained → t.devRead x = s.devRead x)

/-- R147: SLEEP is one event and adds its ticks to ELAPSED; it cannot fail and changes nothing else. -/
def Obligations.SleepAddsTicks : Prop :=
  ∀ (s : State) (d : Ticks), exec (.sleep d) s = .next { s with
    elapsed := s.elapsed + d
    trace := s.trace ++ [.sleep d] }

/-- R40, R53 of the register space: what is written is read back, and every other address keeps its byte. -/
def Obligations.RegisterSpaceReadAfterWrite : Prop :=
  ∀ (cells : List Host.Cell) (a x : Nat) (v : Byte),
    Memory.read (Memory.write cells a v) a = some v ∧
    (x ≠ a → Memory.read (Memory.write cells a v) x = Memory.read cells x)

/-! ## The configuration sequencer -/

/-- R92 to R99, R101, R102: each of the eight steps does its writes of CFGTABLE, or aborts at the first that fails,
under every well-formed LAYOUT (CfgWordsAreTheTable and ConfigBytesHoldTheirFields say what the bytes are). That a
lone step that fails outside a job aborts too, and that OWNED decides what the device keeps, are the model's (log
entries 14, 11). -/
def Obligations.ConfigStepsWrite : Prop :=
  ∀ (s : State) (i : Instr) (ws : List (Label × Byte)), s.params.wf = true →
    i ∈ [Instr.cfgFreq, .cfgDatamodul, .cfgPacket, .cfgPaylen, .cfgFifo, .cfgPreambleSync, .cfgBitrate, .cfgPaOcp] →
    stepWrites s.params i = some ws →
    ws ≠ [] ∧ ∃ t, exec i s = .next t ∧ WritesOrAborts s t ws

/-- R68, R143: each of the 14 configuration words, with every operand, does one write, of the word's own address
and byte, or aborts, whatever ADDR and LAYOUT are; and every 16-bit word does what the WRREG of its address and
byte does. That a failure aborts also outside a job, that OWNED decides what the device keeps, and the label of
an address outside ADDR are the model's (log entries 14, 11, 13). -/
def Obligations.ConfigWordsWrite : Prop :=
  ∀ s : State,
    (∀ (i : Instr) (a v : Byte), wordOf i = some (a, v) →
      decodeRequest (.configWord (a ++ v)) = .ok i ∧ ∃ t, exec i s = .next t ∧ WritesByte s t a v) ∧
    (∀ a v : Byte, ∃ i, decodeRequest (.configWord (a ++ v)) = .ok i ∧ exec i s = exec (.wrreg a v) s)

/-- R91, R101, R103: APPLY is the 14 writes of CFGTABLE in order, each address once, and no other transaction;
failing at entry j it is j + 1 writes, the last answered Err. Its result goes to its caller too. So under every
well-formed LAYOUT (CfgWordsAreTheTable and ConfigBytesHoldTheirFields say what the bytes are). That an APPLY that
fails outside a job aborts too, and that OWNED decides what the device keeps, are the model's (log entries 14,
11). -/
def Obligations.ApplyWritesCfgTable : Prop :=
  ∀ s : State, s.params.wf = true →
    (cfgWords s.params).length = 14 ∧ ((cfgWords s.params).map (fun w => s.params.addrOf w.1)).Nodup ∧
    ∃ t, exec .apply s = .next t ∧ WritesOrAborts s { t with ret := s.ret } (cfgWords s.params) ∧
      (NextOk s 14 → t.ret = some (.applied .ok)) ∧
      (∀ j w, (cfgWords s.params)[j]? = some w → FailsAt s j →
        t.ret = some (.applied (.err (.writeFailed w.1))))

/-- R104: under the ideal device, after an APPLY whose writes are all answered Ok, the registers read back and
decoded are what the document asks for. -/
def Obligations.ReadBackAfterApply : Prop :=
  ∀ s : State, s.params.wf = true → s.params.layout = defaultLayout → s.env = .ideal → NextOk s 14 →
    ∃ t, exec .apply s = .next t ∧ ∃ dev : Label → Byte, (∀ l, dev l = t.devRead (s.params.addrOf l).toNat) ∧
      (FieldName.packetFormat, FieldReading.label .fixedLength)
        ∈ decodeFields (s.params.fieldsOf .packetConfig1) (dev .packetConfig1) ∧
      (FieldName.crcOn, FieldReading.label .off)
        ∈ decodeFields (s.params.fieldsOf .packetConfig1) (dev .packetConfig1) ∧
      (FieldName.dcFree, FieldReading.label .none)
        ∈ decodeFields (s.params.fieldsOf .packetConfig1) (dev .packetConfig1) ∧
      (FieldName.addressFiltering, FieldReading.label .off)
        ∈ decodeFields (s.params.fieldsOf .packetConfig1) (dev .packetConfig1) ∧
      dev .payloadLength = 0#8 ∧ dev .preambleMsb = 0#8 ∧ dev .preambleLsb = 0#8 ∧
      (FieldName.syncOn, FieldReading.label .off)
        ∈ decodeFields (s.params.fieldsOf .syncConfig) (dev .syncConfig) ∧
      (FieldName.modulationType, FieldReading.label .ook)
        ∈ decodeFields (s.params.fieldsOf .datamodul) (dev .datamodul) ∧
      (FieldName.dataMode, FieldReading.label .packet)
        ∈ decodeFields (s.params.fieldsOf .datamodul) (dev .datamodul) ∧
      (FieldName.modulationShaping, FieldReading.label .none)
        ∈ decodeFields (s.params.fieldsOf .datamodul) (dev .datamodul) ∧
      (FieldName.txStartCondition, FieldReading.label .fifoNotEmpty)
        ∈ decodeFields (s.params.fieldsOf .fifoThresh) (dev .fifoThresh) ∧
      natBE [dev .bitrateMsb, dev .bitrateLsb] = s.params.brdiv ∧
      (FieldName.ocpOn, FieldReading.label .disabled) ∈ decodeFields (s.params.fieldsOf .ocp) (dev .ocp)

/-- False of the model, as R52 and P7 ask: an APPLY always succeeds. -/
def Obligations.ApplyAlwaysSucceeds : Prop :=
  ∀ s t : State, s.params.wf = true → exec .apply s = .next t → t.ret = some (.applied .ok)

/-- R100: BRDIV is the integer nearest to FXOSC_HZ / BIT_RATE_BPS, an exact half by ROUND_TIE; P0's is 0x5949. -/
def Obligations.BrdivIsNearest : Prop :=
  (∀ p : Params, 0 < p.bitRateBps →
    2 * p.brdiv * p.bitRateBps ≤ 2 * p.fxoscHz + p.bitRateBps ∧
    2 * p.fxoscHz ≤ 2 * p.brdiv * p.bitRateBps + p.bitRateBps ∧
    (2 * (p.fxoscHz % p.bitRateBps) = p.bitRateBps →
      (p.roundTie = .halfEven → p.brdiv % 2 = 0) ∧
      (p.roundTie = .halfUp → p.brdiv = p.fxoscHz / p.bitRateBps + 1))) ∧
  Params.p0.brdiv = 0x5949

/-! ## The register inspector -/

/-- R110, R111, R53: under the ideal device INSPECT reads each label of the set once (also where the list repeats
it), in ascending order of address, and the report has one entry per label in that order with the byte read and an
attribute per field; nothing else changes. -/
def Obligations.InspectReadsInAddressOrder : Prop :=
  ∀ (s : State) (ls : List Label), s.params.wf = true → s.env = .ideal →
    ∃ order : List Label, order.Nodup ∧ (∀ l, l ∈ order ↔ l ∈ ls) ∧
      order.Pairwise (fun l m => (s.params.addrOf l).toNat < (s.params.addrOf m).toNat) ∧
      ∃ report, exec (.inspect (ls.map (fun l => BitVec.ofNat 8 l.code.val))) s = .next { s with
          trace := s.trace ++
            order.map (fun l => .rdreg (s.params.addrOf l) (.ok (s.devRead (s.params.addrOf l).toNat)))
          report := report
          inspectErr := none
          ret := some (.inspected none) } ∧
        report.map ReportEntry.register = order ∧
        report.map ReportEntry.raw = order.map (fun l => s.devRead (s.params.addrOf l).toNat) ∧
        ∀ e ∈ report, ((decodeFields (s.params.fieldsOf e.register) e.raw).map
          (fun (f, r) => (⟨.field f, .reading r, none⟩ : ReportAttr))) <+: e.attrs

/-- R118, R110, R111, R52: under the unconstrained environment INSPECT reads each label of the set once, in
ascending order of address, the entry of each holding the byte answered and an attribute per field. When the RDREG
of a label answers Err it stops there: the entries before it stay, INSPECT_ERR holds ReadFailed of that label, no
later label is read, and the block's control is untouched. -/
def Obligations.InspectStopsAtFailedRead : Prop :=
  ∀ (s : State) (ls : List Label), s.params.wf = true → s.env = .unconstrained →
    ∃ order : List Label, order.Nodup ∧ (∀ l, l ∈ order ↔ l ∈ ls) ∧
      order.Pairwise (fun l m => (s.params.addrOf l).toNat < (s.params.addrOf m).toNat) ∧
      ∃ t, exec (.inspect (ls.map (fun l => BitVec.ofNat 8 l.code.val))) s = .next t ∧ SameDevice s t ∧
        (∀ j l, order[j]? = some l → FailsAt s j →
          OnlyTraced { s with
              report := t.report
              inspectErr := some (.readFailed l)
              ret := some (.inspected (some (.readFailed l))) } t
            ((List.range j).map (fun i =>
              .rdreg (s.params.addrOf (order.getD i .opmode)) (.ok (drawAt s i).byte))
              ++ [.rdreg (s.params.addrOf l) .ioError]) ∧
          t.report.map ReportEntry.register = order.take j ∧
          t.report.map ReportEntry.raw = (List.range j).map (fun i => (drawAt s i).byte)) ∧
        (NextOk s order.length →
          OnlyTraced { s with
              report := t.report
              inspectErr := none
              ret := some (.inspected none) } t
            ((List.range order.length).map (fun i =>
              .rdreg (s.params.addrOf (order.getD i .opmode)) (.ok (drawAt s i).byte))) ∧
          t.report.map ReportEntry.register = order ∧
          t.report.map ReportEntry.raw = (List.range order.length).map (fun i => (drawAt s i).byte)) ∧
        ∀ e ∈ t.report, ((decodeFields (s.params.fieldsOf e.register) e.raw).map
          (fun (f, r) => (⟨.field f, .reading r, none⟩ : ReportAttr))) <+: e.attrs

/-- R114: whatever labels INSPECT is given and in either environment, the entry of OCP, when OCP was read, carries
45 + 5 * OcpTrim mA (45 to 120) beside OcpOn and OcpTrim, whatever OcpOn holds, and no other entry carries a current
limit. OCP is read where it is in the set and every answer is Ok; the ideal device always answers. Of {OCP} alone
the whole next state. Under the default LAYOUT, whose bits 3:0 are OcpTrim (log entries 18, 27). -/
def Obligations.CurrentLimitFormula : Prop :=
  ∀ s : State, s.params.layout = defaultLayout →
    (∀ (ls : List Label) (t : State),
      exec (.inspect (ls.map (fun l => BitVec.ofNat 8 l.code.val))) s = .next t →
      (∀ e ∈ t.report, ∀ a ∈ e.attrs, a.name = .currentLimit →
        e.register = .ocp ∧ a = ⟨.currentLimit, .number (45 + 5 * (e.raw.toNat % 16)), some .milliamp⟩) ∧
      (∀ e ∈ t.report, e.register = .ocp → 45 + 5 * (e.raw.toNat % 16) ≤ 120 ∧ e.attrs =
        [⟨.field .ocpOn, .reading (.label (if e.raw.getLsbD 4 then .enabled else .disabled)), none⟩,
         ⟨.field .ocpTrim, .reading (.number (e.raw.toNat % 16)), none⟩,
         ⟨.currentLimit, .number (45 + 5 * (e.raw.toNat % 16)), some .milliamp⟩]) ∧
      (.ocp ∈ ls → s.env = .ideal ∨ NextOk s ls.length → ∃ e ∈ t.report, e.register = .ocp ∧
        (s.env = .ideal → e.raw = s.devRead (s.params.addrOf .ocp).toNat))) ∧
    (∀ raw : Byte,
      (s.env = .ideal ∧ raw = s.devRead (s.params.addrOf .ocp).toNat ∨
        s.env = .unconstrained ∧ (drawAt s 0).ok = true ∧ raw = (drawAt s 0).byte) →
      ∃ t, exec (.inspect [8#8]) s = .next t ∧ SameDevice s t ∧
        OnlyTraced { s with
          report := [⟨.ocp, raw,
            [⟨.field .ocpOn, .reading (.label (if raw.getLsbD 4 then .enabled else .disabled)), none⟩,
             ⟨.field .ocpTrim, .reading (.number (raw.toNat % 16)), none⟩,
             ⟨.currentLimit, .number (45 + 5 * (raw.toNat % 16)), some .milliamp⟩]⟩]
          inspectErr := none
          ret := some (.inspected none) } t [.rdreg (s.params.addrOf .ocp) (.ok raw)])

/-- R112: the entry of BITRATE_LSB carries the exact quotient FXOSC_HZ / div in bps, or `undefined` for div = 0,
when both registers of the pair have an entry; with either of them not read, no entry carries it. So in either
environment, where ADDR puts the pair in ascending order as R22 does (log entry 16). Under the ideal device every
label of the set has an entry. -/
def Obligations.EffectiveBitRateAttribute : Prop :=
  ∀ (s t : State) (ls : List Label), s.params.wf = true →
    (s.params.addrOf .bitrateMsb).toNat < (s.params.addrOf .bitrateLsb).toNat →
    exec (.inspect (ls.map (fun l => BitVec.ofNat 8 l.code.val))) s = .next t →
    (∀ e ∈ t.report, ∀ a ∈ e.attrs, a.name = .effectiveBitRate →
      e.register = .bitrateLsb ∧ .bitrateLsb ∈ ls ∧ .bitrateMsb ∈ ls ∧ ∃ m ∈ t.report, m.register = .bitrateMsb) ∧
    (∀ m ∈ t.report, ∀ e ∈ t.report, m.register = .bitrateMsb → e.register = .bitrateLsb →
      ∃ div, div = m.raw.toNat * 256 + e.raw.toNat ∧
        (⟨.effectiveBitRate, if div = 0 then .undefined else .quotient s.params.fxoscHz div, some .bps⟩ : ReportAttr)
          ∈ e.attrs) ∧
    (s.env = .ideal → ∀ l ∈ ls, ∃ e ∈ t.report, e.register = l ∧ e.raw = s.devRead (s.params.addrOf l).toNat)

/-- R115, R116: with the whole group read, the entry of SYNC_VALUE8 carries the 64-bit sync word and that of
AES_KEY16 the 128-bit key, the first register the most significant byte; with a register missing, none. So in
either environment, where ADDR puts the group in ascending order as R28 and R32 do (log entry 16). -/
def Obligations.WideValueAttributes : Prop :=
  ∀ (s t : State) (ls : List Label), s.params.wf = true →
    exec (.inspect (ls.map (fun l => BitVec.ofNat 8 l.code.val))) s = .next t →
    (∀ e ∈ t.report, e.register ∈ ls) ∧
    (syncGroup.Pairwise (fun l m => (s.params.addrOf l).toNat < (s.params.addrOf m).toNat) →
      GroupReported t syncGroup .syncValue8 .syncWord (fun bytes => ⟨.syncWord, .number (natBE bytes), none⟩)) ∧
    (aesGroup.Pairwise (fun l m => (s.params.addrOf l).toNat < (s.params.addrOf m).toNat) →
      GroupReported t aesGroup .aesKey16 .aesKey (fun bytes => ⟨.aesKey, .number (natBE bytes), none⟩))

/-! ## The transmission loop -/

/-- R150, R151, R152, R157, R180: in Configuring, STEP 0 requests Standby, STEP 1 waits at most MAX_WAIT, STEP
2 + i writes entry i of CFGTABLE, each advancing STEP by 1 or aborting with its error and STEP kept; STEP 16
is the transition to Ready without a transaction. (What the writes leave in the device: JobWritesReachDevice.) -/
def Obligations.ConfiguringActions : Prop :=
  ∀ s : State, s.params.wf = true → s.port = none → s.state = .configuring → s.owned = true →
    ∃ t, step s = .next t ∧
      (s.step = 0 → (drawAt s 0).ok = true → OnlyTraced { s with step := 1 } t [.setmode .standby .ok]) ∧
      (s.step = 0 → (drawAt s 0).ok = false →
        AbortsWith s t (.writeFailed .opmode) [.setmode .standby .err, .release]) ∧
      (s.step = 1 → (drawAt s 0).ok = true → OnlyTraced { s with step := 2 } t [.waitrdy s.params.maxWait true]) ∧
      (s.step = 1 → (drawAt s 0).ok = false →
        AbortsWith s t .modeTimeout [.waitrdy s.params.maxWait false, .release]) ∧
      (∀ i w, s.step.val = 2 + i → (cfgWords s.params)[i]? = some w → (drawAt s 0).ok = true →
        OnlyTraced { s with step := Fin.ofNat 17 (3 + i) } t [.wrreg (s.params.addrOf w.1) w.2 .ok]) ∧
      (∀ i w, s.step.val = 2 + i → (cfgWords s.params)[i]? = some w → (drawAt s 0).ok = false →
        AbortsWith s t (.writeFailed w.1) [.wrreg (s.params.addrOf w.1) w.2 .err, .release]) ∧
      (s.step = 16 → t = { s with state := .ready }) ∧
      (cfgWords s.params).length = 14

/-- R153, R154, R156: Ready inspects REGS_OF_INTEREST once if DIAG, then starts Sending(1), or finishes with no
SEND and no SLEEP when REPEAT_COUNT is 0. That the RELEASE of the finish path keeps the device's registers is the
model's choice (log entry 10). -/
def Obligations.ReadyInspectsThenStartsLoop : Prop :=
  ∀ s : State, s.params.wf = true → s.port = none → s.state = .ready →
    ∃ u, (s.diag = false → u = s) ∧
      (s.diag = true → ∃ r, exec (.inspect (s.params.regsOfInterest.map (fun l => BitVec.ofNat 8 l.code.val))) s
        = .next { u with ret := r }) ∧
      u.state = s.state ∧ u.owned = s.owned ∧ u.result = s.result ∧ u.sendCalls = s.sendCalls ∧
      (s.params.repeatCount ≠ 0#32 → step s = .next { u with
        k := 1#32
        state := .sending }) ∧
      (s.params.repeatCount = 0#32 → step s = .next { u with
        owned := false
        trace := u.trace ++ [.release]
        result := some .ok
        state := .idle })

/-- R155, R156, R175: one iteration: SEND unless DRY, a false answer recorded and nothing more; SLEEP after
every iteration but the last, and after the last under TRAILING_DELAY; then the next k, or RELEASE, Ok, Idle. At
most the mode register changes: R53 says so of SEND at the addresses of ADDR; of the others, and across the
RELEASE, it is the model's choice (log entry 10). -/
def Obligations.SendingIteration : Prop :=
  ∀ s : State, s.params.wf = true → s.port = none → s.state = .sending →
    1 ≤ s.k.toNat → s.k.toNat ≤ s.params.repeatCount.toNat →
    ∃ t, step s = .next t ∧
      ∃ more sleeps : Bool, (more = true ↔ s.k.toNat < s.params.repeatCount.toNat) ∧
        (sleeps = true ↔ s.k.toNat < s.params.repeatCount.toNat ∨ s.params.trailingDelay = true) ∧
        t = { s with
          state := if more then .sending else .idle
          k := if more then s.k + 1#32 else s.k
          owned := if more then s.owned else false
          result := if more then s.result else some .ok
          sendFail := if s.dry = false ∧ (drawAt s 0).ok = false then s.sendFail ++ [s.k] else s.sendFail
          sendCalls := if s.dry then s.sendCalls else s.sendCalls + 1
          elapsed := if sleeps then s.elapsed + s.params.interPacketDelay else s.elapsed
          trace := s.trace
            ++ (if s.dry then [] else
              [.send s.params.payload s.params.attemptsPerSend false (drawAt s 0).ok])
            ++ (if sleeps then [.sleep s.params.interPacketDelay] else [])
            ++ (if more then [] else [.release])
          answers := t.answers
          drawn := t.drawn
          dev := t.dev } ∧
        (s.dry = true ∨ s.env = .unconstrained → SameDevice s t) ∧
        (∀ x, x ≠ (s.params.addrOf .opmode).toNat → t.devRead x = s.devRead x)

/-- R155, R156, R159, R161: from Sending(k) the loop runs its remaining iterations whatever SEND answers, and
ends in Idle with Ok, the device released, and exact SEND_CALLS and ELAPSED. -/
def Obligations.LoopRunsToCompletion : Prop :=
  ∀ s : State, s.params.wf = true → s.port = none → s.state = .sending →
    1 ≤ s.k.toNat → s.k.toNat ≤ s.params.repeatCount.toNat →
    ∃ t, After s (s.params.repeatCount.toNat - s.k.toNat + 1) t ∧
      t.state = .idle ∧ t.result = some .ok ∧ t.owned = false ∧ t.k = s.params.repeatCount ∧
      t.sendCalls = s.sendCalls + (if s.dry then 0 else s.params.repeatCount.toNat - s.k.toNat + 1) ∧
      t.elapsed = s.elapsed + (s.params.repeatCount.toNat - s.k.toNat + (if s.params.trailingDelay then 1 else 0))
        * s.params.interPacketDelay

/-- R159: every job that RUN starts ends, in at least one and at most 19 + REPEAT_COUNT steps, whatever the
environment answers and whatever an earlier job left: in Idle with Ok or in Aborted with an error, the device
released. That every transaction is answered is R203's assumption (log entry 22). -/
def Obligations.EveryJobEnds : Prop :=
  ∀ (s : State) (w : Byte), s.params.wf = true → s.state = .idle → s.owned = false →
    s.port = some (.command w) → 0x10 ≤ w.toNat → w.toNat ≤ 0x13 →
    ∃ n t, 1 ≤ n ∧ n ≤ 19 + s.params.repeatCount.toNat ∧ After s n t ∧ t.owned = false ∧ t.port = none ∧
      ((t.state = .idle ∧ t.result = some .ok) ∨
       (t.state = .aborted ∧ ∃ e, t.result = some (.err e) ∧ t.err = some e ∧ t.sendCalls = 0))

/-- R160, R161: two jobs that differ only in DRY and whose configuration succeeds both run REPEAT_COUNT
iterations and end Ok with the same ELAPSED; the dry one issues no SEND, the live one REPEAT_COUNT, and the
dry TRACE is the live one with every SEND removed. -/
def Obligations.DryRunEquivalence : Prop :=
  ∀ (s : State) (diag : Bool), s.params.wf = true → s.state = .idle → s.owned = false → NextOk s 17 →
    ∃ live dry,
      After { s with port := some (.command (commandWord diag false)) } (19 + s.params.repeatCount.toNat) live ∧
      After { s with port := some (.command (commandWord diag true)) } (19 + s.params.repeatCount.toNat) dry ∧
      live.state = .idle ∧ dry.state = .idle ∧ live.result = some .ok ∧ dry.result = some .ok ∧
      live.k = s.params.repeatCount ∧ dry.k = s.params.repeatCount ∧
      live.elapsed = loopDelay s.params ∧ dry.elapsed = loopDelay s.params ∧
      live.sendCalls = s.params.repeatCount.toNat ∧ dry.sendCalls = 0 ∧ dry.sendFail = [] ∧
      dry.trace = live.trace.filter (fun e => !isSend e)

/-! ## Invariants and rules of the whole machine -/

/-- R11 to R17, R141, R159, R161, R179, R200: every step keeps the job invariant, which gives TRACE its whole shape in
every state of a job (running, finished and aborted) and makes SEND_FAIL the list of the iterations whose SEND was
answered false. -/
def Obligations.JobInvariantKept : Prop :=
  ∀ s t : State, JobInv s → step s = .next t → JobInv t

/-- R36: the invariants hold after reset, under any well-formed parameters. -/
def Obligations.InvariantsAtReset : Prop :=
  (JobInv State.reset ∧ Accounting State.reset ∧ DeviceInv State.reset) ∧
  ∀ p : Params, p.wf = true →
    JobInv (State.resetWith p) ∧ Accounting (State.resetWith p) ∧ DeviceInv (State.resetWith p)

/-- R16, R17: every step, also of an operation invoked on its own, keeps SEND_CALLS the count of the SEND events
of TRACE and ELAPSED the sum of its SLEEPs. -/
def Obligations.AccountingKept : Prop :=
  ∀ s t : State, Accounting s → step s = .next t → Accounting t

/-- R40: every step keeps the register space of the ideal device in its canonical form: addresses strictly
rising, all of them in 0x00 to 0xFF. -/
def Obligations.DeviceFormKept : Prop :=
  ∀ s t : State, DeviceInv s → step s = .next t → DeviceInv t

/-- R35, R49, R182: no step changes a parameter or the model of the environment, and the port is empty after it. -/
def Obligations.ParametersNeverChange : Prop :=
  ∀ s t : State, step s = .next t → t.params = s.params ∧ t.env = s.env ∧ t.port = none

/-- R12, R181: nothing but block reset leaves Aborted: any other step of the host's changes nothing. -/
def Obligations.AbortedIsTerminal : Prop :=
  ∀ s : State, s.params.wf = true → s.state = .aborted → HostPort s → s.port ≠ some .reset →
    step s = .next { s with port := none }

/-- R159, R203 under the job invariant: the block never stops, but for a reset during a job (log entry 7). -/
def Obligations.BlockNeverStops : Prop :=
  ∀ s : State, JobInv s → (s.port = some .reset → s.busy = false) → ∃ t, step s = .next t

/-- R200, R155: under the host's inputs alone, SEND_CALLS grows only in Sending and only in a live job. -/
def Obligations.SendOnlyWhileSending : Prop :=
  ∀ s t : State, HostPort s → step s = .next t → s.sendCalls < t.sendCalls → s.state = .sending ∧ s.dry = false

/-- R46, R18: while a job runs, under the host's inputs alone, TRACE only grows at its end. -/
def Obligations.TraceOnlyGrows : Prop :=
  ∀ s t : State, HostPort s → s.busy = true → step s = .next t → s.trace <+: t.trace

/-- R158: success and the exit status are read from RESULT alone, and the host's record is the six latches. -/
def Obligations.HostReadsResult : Prop :=
  ∀ s : State, (s.success = true ↔ s.result = some .ok) ∧ (s.exitStatus = 0 ↔ s.result = some .ok) ∧
    (s.exitStatus = 0 ∨ s.exitStatus = 1) ∧
    s.hostResult = ⟨s.result, s.report, s.inspectErr, s.sendFail, s.sendCalls, s.elapsed⟩

/-! ## What a job leaves in the device, the configuration bytes, release on every path -/

/-- R150, R151, R53: what a job's own configuration actions leave in the ideal device. A write answered Ok at STEP =
2 + i leaves its byte at its address and every other address as it was; the mode request and the mode wait change
no register but the mode register, at the addresses of ADDR (and, where the wait fails, across the RELEASE: log
entry 10); the transition to Ready changes none. In the unconstrained environment there is no `dev` to change. -/
def Obligations.JobWritesReachDevice : Prop :=
  ∀ s : State, s.params.wf = true → s.port = none → s.state = .configuring → s.owned = true →
    ∃ t, step s = .next t ∧
      (s.env = .unconstrained ∨ s.step.val = 16 → SameDevice s t) ∧
      (∀ i w, s.step.val = 2 + i → (cfgWords s.params)[i]? = some w → (drawAt s 0).ok = true → s.env = .ideal →
        t.devRead (s.params.addrOf w.1).toNat = w.2 ∧
        ∀ x, x ≠ (s.params.addrOf w.1).toNat → t.devRead x = s.devRead x) ∧
      (s.step.val = 0 ∧ (drawAt s 0).ok = true ∨ s.step.val = 1 →
        ∀ l, l ≠ .opmode → t.devRead (s.params.addrOf l).toNat = s.devRead (s.params.addrOf l).toNat)

/-- R92 to R101 under the default LAYOUT: the pairs that each of the eight steps and APPLY write are those of the
tables, in their order. -/
def Obligations.CfgWordsAreTheTable : Prop :=
  ∀ (p : Params) (i : Instr), p.wf = true → p.layout = defaultLayout → stepWrites p i = expectedWrites p i

/-- R90, R92 to R101 under every well-formed LAYOUT: CFGTABLE writes the 14 registers in the order of the eight
steps; the bytes of wide values and whole registers are those of the parameters, and in every byte made of fields
each field holds the value TARGET gives it, every other field and every unused bit 0 (R83). -/
def Obligations.ConfigBytesHoldTheirFields : Prop :=
  ∀ p : Params, p.wf = true →
    (cfgWords p).map Prod.fst =
      [.frfMsb, .frfMid, .frfLsb, .datamodul, .packetConfig1, .payloadLength, .fifoThresh, .preambleMsb,
       .preambleLsb, .syncConfig, .bitrateMsb, .bitrateLsb, .paLevel, .ocp] ∧
    (∀ w ∈ wholeBytes p, w ∈ cfgWords p) ∧
    (∀ l values, (l, values) ∈ targetFields p → ∃ b : Byte, (l, b) ∈ cfgWords p ∧
      (∀ v ∈ values, ∃ d ∈ p.fieldsOf l, d.name = v.1 ∧ extractField b d.high d.low = v.2) ∧
      (∀ d ∈ p.fieldsOf l, (∀ v ∈ values, d.name ≠ v.1) → extractField b d.high d.low = 0) ∧
      b &&& ~~~usedBits (p.fieldsOf l) = 0#8)

/-- R140, R141, R17: what every step leaves of a job, from a state that meets the job invariant. OWNED is true exactly
while a job runs. A TRACE begins with its only ACQUIRE, and holds no RELEASE while the job runs; the step that starts
a job leaves that ACQUIRE alone, answered Ok. The step that ends a running job adds its events and one RELEASE, the
last and the only one. Once the job has ended TRACE ends in its only RELEASE, or is the failed ACQUIRE alone. -/
def Obligations.EveryJobReleasesOnce : Prop :=
  ∀ s t : State, JobInv s → step s = .next t →
    t.owned = t.busy ∧
    (t.trace ≠ [] → t.trace.countP isAcquire = 1 ∧ ∃ a, t.trace.head? = some (.acquire a)) ∧
    (t.busy = true → t.trace ≠ [] ∧ .release ∉ t.trace) ∧
    (s.busy = false → t.busy = true → t.trace = [.acquire .ok]) ∧
    (s.busy = true → t.busy = false → ∃ more,
      t.trace = s.trace ++ more ++ [.release] ∧ .release ∉ s.trace ++ more) ∧
    (t.busy = false → t.trace = [] ∨
      (t.trace = [.acquire .err] ∧ t.result = some (.err .deviceUnavailable)) ∨
      ∃ before, t.trace = before ++ [.release] ∧ .release ∉ before ∧ t.trace.head? = some (.acquire .ok))
end

