-- ==== Sys2Proof/Laws/Codec.lean ====
section
/-!
SUPPORT. What the readers of operand bytes do: each takes back what the encoder wrote and leaves the rest.
-/

namespace Sys2Proof

/-- Taking as many bytes as a list has gives that list. -/
@[simp] theorem takeBytes_append (bs rest : List Byte) :
    takeBytes bs.length (bs ++ rest) = some (bs, rest) := by
  induction bs with
  | nil => rfl
  | cons b bs ih => simp [takeBytes, ih]

/-- What is taken has the length asked for, and nothing is lost. -/
theorem takeBytes_eq_some {k : Nat} {bs taken rest : List Byte} (h : takeBytes k bs = some (taken, rest)) :
    taken.length = k ∧ bs = taken ++ rest := by
  induction k generalizing bs taken rest with
  | zero => simp only [takeBytes, Option.some.injEq, Prod.mk.injEq] at h; simp [← h.1, h.2]
  | succ k ih =>
    cases bs with
    | nil => simp [takeBytes] at h
    | cons b bs =>
      simp only [takeBytes] at h
      split at h
      · next t r ht =>
        simp only [Option.some.injEq, Prod.mk.injEq] at h
        obtain ⟨hl, hb⟩ := ih ht
        exact ⟨by simp [← h.1, hl], by simp [← h.1, ← h.2, hb]⟩
      · cases h

/-- The two bytes of a 16-bit value, put together again. -/
theorem append_halves (v : BitVec 16) : v.extractLsb' 8 8 ++ v.extractLsb' 0 8 = v := by
  ext i hi
  simp only [BitVec.getElem_append, BitVec.getElem_extractLsb']
  split
  · simp [BitVec.getLsbD_eq_getElem, *]
  · rw [show 8 + (i - 8) = i by omega, BitVec.getLsbD_eq_getElem (by omega)]

/-- The two bytes of a 16-bit word (R68). -/
theorem split_word (a v : Byte) :
    ((a ++ v : BitVec 16).extractLsb' 8 8 = a) ∧ ((a ++ v : BitVec 16).extractLsb' 0 8 = v) := by
  constructor <;> apply BitVec.eq_of_toNat_eq <;>
    simp only [BitVec.extractLsb'_toNat, BitVec.toNat_append] <;>
    rw [← Nat.shiftLeft_add_eq_or_of_lt v.isLt] <;>
    simp only [Nat.shiftLeft_eq, Nat.shiftRight_eq_div_pow] <;>
    have := a.isLt <;> have := v.isLt <;> omega

/-- The pairs of a mapping are read back. -/
@[simp] theorem takePairs_pairBytes (vals : List (Byte × BitVec 16)) (rest : List Byte) :
    takePairs vals.length (pairBytes vals ++ rest) = some (vals, rest) := by
  induction vals with
  | nil => rfl
  | cons w vals ih => simp [takePairs, pairBytes, ih, append_halves]

/-- A two-byte length is read back. -/
theorem length_two_bytes {n : Nat} (h : n < 2 ^ 16) :
    (BitVec.ofNat 8 (n / 256) : Byte).toNat * 256 + (BitVec.ofNat 8 n : Byte).toNat = n := by
  simp only [BitVec.toNat_ofNat]
  omega

/-- A four-byte duration is read back. -/
theorem natBE_four_bytes {n : Nat} (h : n < 2 ^ 32) : natBE (bytesBE 4 n) = n := by
  simp only [bytesBE, natBE, List.foldl, BitVec.toNat_ofNat]
  omega

/-- The four bytes of a count, put together again. -/
theorem append_four_bytes (c : Count) :
    (BitVec.ofNat 8 (c.toNat / 256 ^ 3) ++ BitVec.ofNat 8 (c.toNat / 256 ^ 2)
      ++ BitVec.ofNat 8 (c.toNat / 256 ^ 1) ++ BitVec.ofNat 8 (c.toNat / 256 ^ 0) : Count) = c := by
  apply BitVec.eq_of_toNat_eq
  have := c.isLt
  simp only [BitVec.toNat_append, BitVec.toNat_ofNat]
  repeat rw [← Nat.shiftLeft_add_eq_or_of_lt (i := 8) (by omega)]
  simp only [Nat.shiftLeft_eq]
  omega

/-- SEND's operands are read back. -/
theorem decodeSend_encoded {payload : List Byte} (h : payload.length < 2 ^ 16) (attempts : Count)
    (requireAck : Bool) :
    decodeSend (bytesBE 2 payload.length ++ (payload ++ (bytesBE 4 attempts.toNat
      ++ [if requireAck then 1#8 else 0#8]))) = .ok (.send payload attempts requireAck, []) := by
  have hl := length_two_bytes h
  have hc := append_four_bytes attempts
  simp only [bytesBE, Nat.pow_zero, Nat.div_one, Nat.pow_one] at hc ⊢
  simp only [List.cons_append, List.nil_append, decodeSend, hl, takeBytes_append, decodeSendTail, hc]
  cases requireAck <;> simp

end Sys2Proof
end

