-- ==== Sys2Proof/Laws/State.lean ====
section
/-!
SUPPORT. One lemma per field per update of State, so that no proof unfolds a record update. The updates are the
shared operations of Sys2Proof/Machine/Ops.lean and Flags.lean.
-/

namespace Sys2Proof.Laws

open Sys2Proof.Machine

/-! ### dropDraw -/

@[simp] theorem dropDraw_params (s : State) : s.dropDraw.params = s.params := rfl
@[simp] theorem dropDraw_state (s : State) : s.dropDraw.state = s.state := rfl
@[simp] theorem dropDraw_step (s : State) : s.dropDraw.step = s.step := rfl
@[simp] theorem dropDraw_k (s : State) : s.dropDraw.k = s.k := rfl
@[simp] theorem dropDraw_dry (s : State) : s.dropDraw.dry = s.dry := rfl
@[simp] theorem dropDraw_diag (s : State) : s.dropDraw.diag = s.diag := rfl
@[simp] theorem dropDraw_owned (s : State) : s.dropDraw.owned = s.owned := rfl
@[simp] theorem dropDraw_err (s : State) : s.dropDraw.err = s.err := rfl
@[simp] theorem dropDraw_result (s : State) : s.dropDraw.result = s.result := rfl
@[simp] theorem dropDraw_sendFail (s : State) : s.dropDraw.sendFail = s.sendFail := rfl
@[simp] theorem dropDraw_sendCalls (s : State) : s.dropDraw.sendCalls = s.sendCalls := rfl
@[simp] theorem dropDraw_inspectErr (s : State) : s.dropDraw.inspectErr = s.inspectErr := rfl
@[simp] theorem dropDraw_elapsed (s : State) : s.dropDraw.elapsed = s.elapsed := rfl
@[simp] theorem dropDraw_report (s : State) : s.dropDraw.report = s.report := rfl
@[simp] theorem dropDraw_trace (s : State) : s.dropDraw.trace = s.trace := rfl
@[simp] theorem dropDraw_env (s : State) : s.dropDraw.env = s.env := rfl
@[simp] theorem dropDraw_dev (s : State) : s.dropDraw.dev = s.dev := rfl
@[simp] theorem dropDraw_devEpoch (s : State) : s.dropDraw.devEpoch = s.devEpoch := rfl
@[simp] theorem dropDraw_answers (s : State) : s.dropDraw.answers = s.answers.tail := rfl
@[simp] theorem dropDraw_drawn (s : State) : s.dropDraw.drawn = if s.answers.isEmpty then s.drawn + 1 else s.drawn := rfl
@[simp] theorem dropDraw_port (s : State) : s.dropDraw.port = s.port := rfl
@[simp] theorem dropDraw_ret (s : State) : s.dropDraw.ret = s.ret := rfl

/-! ### forgetDevice -/

@[simp] theorem forgetDevice_params (s : State) : s.forgetDevice.params = s.params := rfl
@[simp] theorem forgetDevice_state (s : State) : s.forgetDevice.state = s.state := rfl
@[simp] theorem forgetDevice_step (s : State) : s.forgetDevice.step = s.step := rfl
@[simp] theorem forgetDevice_k (s : State) : s.forgetDevice.k = s.k := rfl
@[simp] theorem forgetDevice_dry (s : State) : s.forgetDevice.dry = s.dry := rfl
@[simp] theorem forgetDevice_diag (s : State) : s.forgetDevice.diag = s.diag := rfl
@[simp] theorem forgetDevice_owned (s : State) : s.forgetDevice.owned = s.owned := rfl
@[simp] theorem forgetDevice_err (s : State) : s.forgetDevice.err = s.err := rfl
@[simp] theorem forgetDevice_result (s : State) : s.forgetDevice.result = s.result := rfl
@[simp] theorem forgetDevice_sendFail (s : State) : s.forgetDevice.sendFail = s.sendFail := rfl
@[simp] theorem forgetDevice_sendCalls (s : State) : s.forgetDevice.sendCalls = s.sendCalls := rfl
@[simp] theorem forgetDevice_inspectErr (s : State) : s.forgetDevice.inspectErr = s.inspectErr := rfl
@[simp] theorem forgetDevice_elapsed (s : State) : s.forgetDevice.elapsed = s.elapsed := rfl
@[simp] theorem forgetDevice_report (s : State) : s.forgetDevice.report = s.report := rfl
@[simp] theorem forgetDevice_trace (s : State) : s.forgetDevice.trace = s.trace := rfl
@[simp] theorem forgetDevice_env (s : State) : s.forgetDevice.env = s.env := rfl
@[simp] theorem forgetDevice_dev (s : State) : s.forgetDevice.dev = [] := rfl
@[simp] theorem forgetDevice_devEpoch (s : State) : s.forgetDevice.devEpoch = s.devEpoch + 1 := rfl
@[simp] theorem forgetDevice_answers (s : State) : s.forgetDevice.answers = s.answers := rfl
@[simp] theorem forgetDevice_drawn (s : State) : s.forgetDevice.drawn = s.drawn := rfl
@[simp] theorem forgetDevice_port (s : State) : s.forgetDevice.port = s.port := rfl
@[simp] theorem forgetDevice_ret (s : State) : s.forgetDevice.ret = s.ret := rfl

/-! ### blockReset -/

@[simp] theorem blockReset_params (s : State) : s.blockReset.params = s.params := rfl
@[simp] theorem blockReset_state (s : State) : s.blockReset.state = .idle := rfl
@[simp] theorem blockReset_step (s : State) : s.blockReset.step = 0 := rfl
@[simp] theorem blockReset_k (s : State) : s.blockReset.k = 0#32 := rfl
@[simp] theorem blockReset_dry (s : State) : s.blockReset.dry = false := rfl
@[simp] theorem blockReset_diag (s : State) : s.blockReset.diag = false := rfl
@[simp] theorem blockReset_owned (s : State) : s.blockReset.owned = false := rfl
@[simp] theorem blockReset_err (s : State) : s.blockReset.err = none := rfl
@[simp] theorem blockReset_result (s : State) : s.blockReset.result = none := rfl
@[simp] theorem blockReset_sendFail (s : State) : s.blockReset.sendFail = [] := rfl
@[simp] theorem blockReset_sendCalls (s : State) : s.blockReset.sendCalls = 0 := rfl
@[simp] theorem blockReset_inspectErr (s : State) : s.blockReset.inspectErr = none := rfl
@[simp] theorem blockReset_elapsed (s : State) : s.blockReset.elapsed = 0 := rfl
@[simp] theorem blockReset_report (s : State) : s.blockReset.report = [] := rfl
@[simp] theorem blockReset_trace (s : State) : s.blockReset.trace = [] := rfl
@[simp] theorem blockReset_env (s : State) : s.blockReset.env = s.env := rfl
@[simp] theorem blockReset_dev (s : State) : s.blockReset.dev = [] := rfl
@[simp] theorem blockReset_devEpoch (s : State) : s.blockReset.devEpoch = s.devEpoch + 1 := rfl
@[simp] theorem blockReset_answers (s : State) : s.blockReset.answers = s.answers := rfl
@[simp] theorem blockReset_drawn (s : State) : s.blockReset.drawn = s.drawn := rfl
@[simp] theorem blockReset_port (s : State) : s.blockReset.port = none := rfl
@[simp] theorem blockReset_ret (s : State) : s.blockReset.ret = none := rfl

/-! ### acquireTxn -/

@[simp] theorem acquireTxn_params (s : State) : s.acquireTxn.params = s.params := rfl
@[simp] theorem acquireTxn_state (s : State) : s.acquireTxn.state = s.state := rfl
@[simp] theorem acquireTxn_step (s : State) : s.acquireTxn.step = s.step := rfl
@[simp] theorem acquireTxn_k (s : State) : s.acquireTxn.k = s.k := rfl
@[simp] theorem acquireTxn_dry (s : State) : s.acquireTxn.dry = s.dry := rfl
@[simp] theorem acquireTxn_diag (s : State) : s.acquireTxn.diag = s.diag := rfl
@[simp] theorem acquireTxn_owned (s : State) : s.acquireTxn.owned = (s.owned || s.nextDraw.ok) := rfl
@[simp] theorem acquireTxn_err (s : State) : s.acquireTxn.err = s.err := rfl
@[simp] theorem acquireTxn_result (s : State) : s.acquireTxn.result = s.result := rfl
@[simp] theorem acquireTxn_sendFail (s : State) : s.acquireTxn.sendFail = s.sendFail := rfl
@[simp] theorem acquireTxn_sendCalls (s : State) : s.acquireTxn.sendCalls = s.sendCalls := rfl
@[simp] theorem acquireTxn_inspectErr (s : State) : s.acquireTxn.inspectErr = s.inspectErr := rfl
@[simp] theorem acquireTxn_elapsed (s : State) : s.acquireTxn.elapsed = s.elapsed := rfl
@[simp] theorem acquireTxn_report (s : State) : s.acquireTxn.report = s.report := rfl
@[simp] theorem acquireTxn_trace (s : State) : s.acquireTxn.trace = s.trace ++ [.acquire s.nextAnswer] := rfl
@[simp] theorem acquireTxn_env (s : State) : s.acquireTxn.env = s.env := rfl
@[simp] theorem acquireTxn_dev (s : State) : s.acquireTxn.dev = s.deviceAfterAcquire.dev := rfl
@[simp] theorem acquireTxn_devEpoch (s : State) : s.acquireTxn.devEpoch = s.deviceAfterAcquire.devEpoch := rfl
@[simp] theorem acquireTxn_answers (s : State) : s.acquireTxn.answers = s.answers.tail := rfl
@[simp] theorem acquireTxn_drawn (s : State) : s.acquireTxn.drawn = s.dropDraw.drawn := rfl
@[simp] theorem acquireTxn_port (s : State) : s.acquireTxn.port = s.port := rfl
@[simp] theorem acquireTxn_ret (s : State) : s.acquireTxn.ret = s.ret := rfl

/-! ### releaseTxn -/

@[simp] theorem releaseTxn_params (s : State) : s.releaseTxn.params = s.params := rfl
@[simp] theorem releaseTxn_state (s : State) : s.releaseTxn.state = s.state := rfl
@[simp] theorem releaseTxn_step (s : State) : s.releaseTxn.step = s.step := rfl
@[simp] theorem releaseTxn_k (s : State) : s.releaseTxn.k = s.k := rfl
@[simp] theorem releaseTxn_dry (s : State) : s.releaseTxn.dry = s.dry := rfl
@[simp] theorem releaseTxn_diag (s : State) : s.releaseTxn.diag = s.diag := rfl
@[simp] theorem releaseTxn_owned (s : State) : s.releaseTxn.owned = false := rfl
@[simp] theorem releaseTxn_err (s : State) : s.releaseTxn.err = s.err := rfl
@[simp] theorem releaseTxn_result (s : State) : s.releaseTxn.result = s.result := rfl
@[simp] theorem releaseTxn_sendFail (s : State) : s.releaseTxn.sendFail = s.sendFail := rfl
@[simp] theorem releaseTxn_sendCalls (s : State) : s.releaseTxn.sendCalls = s.sendCalls := rfl
@[simp] theorem releaseTxn_inspectErr (s : State) : s.releaseTxn.inspectErr = s.inspectErr := rfl
@[simp] theorem releaseTxn_elapsed (s : State) : s.releaseTxn.elapsed = s.elapsed := rfl
@[simp] theorem releaseTxn_report (s : State) : s.releaseTxn.report = s.report := rfl
@[simp] theorem releaseTxn_trace (s : State) : s.releaseTxn.trace = s.trace ++ [.release] := rfl
@[simp] theorem releaseTxn_env (s : State) : s.releaseTxn.env = s.env := rfl
@[simp] theorem releaseTxn_dev (s : State) : s.releaseTxn.dev = s.dev := rfl
@[simp] theorem releaseTxn_devEpoch (s : State) : s.releaseTxn.devEpoch = s.devEpoch := rfl
@[simp] theorem releaseTxn_answers (s : State) : s.releaseTxn.answers = s.answers := rfl
@[simp] theorem releaseTxn_drawn (s : State) : s.releaseTxn.drawn = s.drawn := rfl
@[simp] theorem releaseTxn_port (s : State) : s.releaseTxn.port = s.port := rfl
@[simp] theorem releaseTxn_ret (s : State) : s.releaseTxn.ret = s.ret := rfl

/-! ### wrregTxn -/

@[simp] theorem wrregTxn_params (s : State) (a v : Byte) : (s.wrregTxn a v).params = s.params := rfl
@[simp] theorem wrregTxn_state (s : State) (a v : Byte) : (s.wrregTxn a v).state = s.state := rfl
@[simp] theorem wrregTxn_step (s : State) (a v : Byte) : (s.wrregTxn a v).step = s.step := rfl
@[simp] theorem wrregTxn_k (s : State) (a v : Byte) : (s.wrregTxn a v).k = s.k := rfl
@[simp] theorem wrregTxn_dry (s : State) (a v : Byte) : (s.wrregTxn a v).dry = s.dry := rfl
@[simp] theorem wrregTxn_diag (s : State) (a v : Byte) : (s.wrregTxn a v).diag = s.diag := rfl
@[simp] theorem wrregTxn_owned (s : State) (a v : Byte) : (s.wrregTxn a v).owned = s.owned := rfl
@[simp] theorem wrregTxn_err (s : State) (a v : Byte) : (s.wrregTxn a v).err = s.err := rfl
@[simp] theorem wrregTxn_result (s : State) (a v : Byte) : (s.wrregTxn a v).result = s.result := rfl
@[simp] theorem wrregTxn_sendFail (s : State) (a v : Byte) : (s.wrregTxn a v).sendFail = s.sendFail := rfl
@[simp] theorem wrregTxn_sendCalls (s : State) (a v : Byte) : (s.wrregTxn a v).sendCalls = s.sendCalls := rfl
@[simp] theorem wrregTxn_inspectErr (s : State) (a v : Byte) : (s.wrregTxn a v).inspectErr = s.inspectErr := rfl
@[simp] theorem wrregTxn_elapsed (s : State) (a v : Byte) : (s.wrregTxn a v).elapsed = s.elapsed := rfl
@[simp] theorem wrregTxn_report (s : State) (a v : Byte) : (s.wrregTxn a v).report = s.report := rfl
@[simp] theorem wrregTxn_trace (s : State) (a v : Byte) : (s.wrregTxn a v).trace = s.trace ++ [.wrreg a v s.nextAnswer] := rfl
@[simp] theorem wrregTxn_env (s : State) (a v : Byte) : (s.wrregTxn a v).env = s.env := rfl
@[simp] theorem wrregTxn_dev (s : State) (a v : Byte) : (s.wrregTxn a v).dev = s.devAfterWrite a v := rfl
@[simp] theorem wrregTxn_devEpoch (s : State) (a v : Byte) : (s.wrregTxn a v).devEpoch = s.devEpoch := rfl
@[simp] theorem wrregTxn_answers (s : State) (a v : Byte) : (s.wrregTxn a v).answers = s.answers.tail := rfl
@[simp] theorem wrregTxn_drawn (s : State) (a v : Byte) : (s.wrregTxn a v).drawn = s.dropDraw.drawn := rfl
@[simp] theorem wrregTxn_port (s : State) (a v : Byte) : (s.wrregTxn a v).port = s.port := rfl
@[simp] theorem wrregTxn_ret (s : State) (a v : Byte) : (s.wrregTxn a v).ret = s.ret := rfl

/-! ### setmodeTxn -/

@[simp] theorem setmodeTxn_params (s : State) (m : Mode) : (s.setmodeTxn m).params = s.params := rfl
@[simp] theorem setmodeTxn_state (s : State) (m : Mode) : (s.setmodeTxn m).state = s.state := rfl
@[simp] theorem setmodeTxn_step (s : State) (m : Mode) : (s.setmodeTxn m).step = s.step := rfl
@[simp] theorem setmodeTxn_k (s : State) (m : Mode) : (s.setmodeTxn m).k = s.k := rfl
@[simp] theorem setmodeTxn_dry (s : State) (m : Mode) : (s.setmodeTxn m).dry = s.dry := rfl
@[simp] theorem setmodeTxn_diag (s : State) (m : Mode) : (s.setmodeTxn m).diag = s.diag := rfl
@[simp] theorem setmodeTxn_owned (s : State) (m : Mode) : (s.setmodeTxn m).owned = s.owned := rfl
@[simp] theorem setmodeTxn_err (s : State) (m : Mode) : (s.setmodeTxn m).err = s.err := rfl
@[simp] theorem setmodeTxn_result (s : State) (m : Mode) : (s.setmodeTxn m).result = s.result := rfl
@[simp] theorem setmodeTxn_sendFail (s : State) (m : Mode) : (s.setmodeTxn m).sendFail = s.sendFail := rfl
@[simp] theorem setmodeTxn_sendCalls (s : State) (m : Mode) : (s.setmodeTxn m).sendCalls = s.sendCalls := rfl
@[simp] theorem setmodeTxn_inspectErr (s : State) (m : Mode) : (s.setmodeTxn m).inspectErr = s.inspectErr := rfl
@[simp] theorem setmodeTxn_elapsed (s : State) (m : Mode) : (s.setmodeTxn m).elapsed = s.elapsed := rfl
@[simp] theorem setmodeTxn_report (s : State) (m : Mode) : (s.setmodeTxn m).report = s.report := rfl
@[simp] theorem setmodeTxn_trace (s : State) (m : Mode) : (s.setmodeTxn m).trace = s.trace ++ [.setmode m s.nextAnswer] := rfl
@[simp] theorem setmodeTxn_env (s : State) (m : Mode) : (s.setmodeTxn m).env = s.env := rfl
@[simp] theorem setmodeTxn_dev (s : State) (m : Mode) : (s.setmodeTxn m).dev = s.devAfterMode := rfl
@[simp] theorem setmodeTxn_devEpoch (s : State) (m : Mode) : (s.setmodeTxn m).devEpoch = s.devEpoch := rfl
@[simp] theorem setmodeTxn_answers (s : State) (m : Mode) : (s.setmodeTxn m).answers = s.answers.tail := rfl
@[simp] theorem setmodeTxn_drawn (s : State) (m : Mode) : (s.setmodeTxn m).drawn = s.dropDraw.drawn := rfl
@[simp] theorem setmodeTxn_port (s : State) (m : Mode) : (s.setmodeTxn m).port = s.port := rfl
@[simp] theorem setmodeTxn_ret (s : State) (m : Mode) : (s.setmodeTxn m).ret = s.ret := rfl

/-! ### waitrdyTxn -/

@[simp] theorem waitrdyTxn_params (s : State) (d : Ticks) : (s.waitrdyTxn d).params = s.params := rfl
@[simp] theorem waitrdyTxn_state (s : State) (d : Ticks) : (s.waitrdyTxn d).state = s.state := rfl
@[simp] theorem waitrdyTxn_step (s : State) (d : Ticks) : (s.waitrdyTxn d).step = s.step := rfl
@[simp] theorem waitrdyTxn_k (s : State) (d : Ticks) : (s.waitrdyTxn d).k = s.k := rfl
@[simp] theorem waitrdyTxn_dry (s : State) (d : Ticks) : (s.waitrdyTxn d).dry = s.dry := rfl
@[simp] theorem waitrdyTxn_diag (s : State) (d : Ticks) : (s.waitrdyTxn d).diag = s.diag := rfl
@[simp] theorem waitrdyTxn_owned (s : State) (d : Ticks) : (s.waitrdyTxn d).owned = s.owned := rfl
@[simp] theorem waitrdyTxn_err (s : State) (d : Ticks) : (s.waitrdyTxn d).err = s.err := rfl
@[simp] theorem waitrdyTxn_result (s : State) (d : Ticks) : (s.waitrdyTxn d).result = s.result := rfl
@[simp] theorem waitrdyTxn_sendFail (s : State) (d : Ticks) : (s.waitrdyTxn d).sendFail = s.sendFail := rfl
@[simp] theorem waitrdyTxn_sendCalls (s : State) (d : Ticks) : (s.waitrdyTxn d).sendCalls = s.sendCalls := rfl
@[simp] theorem waitrdyTxn_inspectErr (s : State) (d : Ticks) : (s.waitrdyTxn d).inspectErr = s.inspectErr := rfl
@[simp] theorem waitrdyTxn_elapsed (s : State) (d : Ticks) : (s.waitrdyTxn d).elapsed = s.elapsed := rfl
@[simp] theorem waitrdyTxn_report (s : State) (d : Ticks) : (s.waitrdyTxn d).report = s.report := rfl
@[simp] theorem waitrdyTxn_trace (s : State) (d : Ticks) : (s.waitrdyTxn d).trace = s.trace ++ [.waitrdy d s.nextDraw.ok] := rfl
@[simp] theorem waitrdyTxn_env (s : State) (d : Ticks) : (s.waitrdyTxn d).env = s.env := rfl
@[simp] theorem waitrdyTxn_dev (s : State) (d : Ticks) : (s.waitrdyTxn d).dev = s.devAfterMode := rfl
@[simp] theorem waitrdyTxn_devEpoch (s : State) (d : Ticks) : (s.waitrdyTxn d).devEpoch = s.devEpoch := rfl
@[simp] theorem waitrdyTxn_answers (s : State) (d : Ticks) : (s.waitrdyTxn d).answers = s.answers.tail := rfl
@[simp] theorem waitrdyTxn_drawn (s : State) (d : Ticks) : (s.waitrdyTxn d).drawn = s.dropDraw.drawn := rfl
@[simp] theorem waitrdyTxn_port (s : State) (d : Ticks) : (s.waitrdyTxn d).port = s.port := rfl
@[simp] theorem waitrdyTxn_ret (s : State) (d : Ticks) : (s.waitrdyTxn d).ret = s.ret := rfl

/-! ### sendTxn -/

@[simp] theorem sendTxn_params (s : State) (b : List Byte) (n : Count) (q : Bool) : (s.sendTxn b n q).params = s.params := rfl
@[simp] theorem sendTxn_state (s : State) (b : List Byte) (n : Count) (q : Bool) : (s.sendTxn b n q).state = s.state := rfl
@[simp] theorem sendTxn_step (s : State) (b : List Byte) (n : Count) (q : Bool) : (s.sendTxn b n q).step = s.step := rfl
@[simp] theorem sendTxn_k (s : State) (b : List Byte) (n : Count) (q : Bool) : (s.sendTxn b n q).k = s.k := rfl
@[simp] theorem sendTxn_dry (s : State) (b : List Byte) (n : Count) (q : Bool) : (s.sendTxn b n q).dry = s.dry := rfl
@[simp] theorem sendTxn_diag (s : State) (b : List Byte) (n : Count) (q : Bool) : (s.sendTxn b n q).diag = s.diag := rfl
@[simp] theorem sendTxn_owned (s : State) (b : List Byte) (n : Count) (q : Bool) : (s.sendTxn b n q).owned = s.owned := rfl
@[simp] theorem sendTxn_err (s : State) (b : List Byte) (n : Count) (q : Bool) : (s.sendTxn b n q).err = s.err := rfl
@[simp] theorem sendTxn_result (s : State) (b : List Byte) (n : Count) (q : Bool) : (s.sendTxn b n q).result = s.result := rfl
@[simp] theorem sendTxn_sendFail (s : State) (b : List Byte) (n : Count) (q : Bool) : (s.sendTxn b n q).sendFail = s.sendFail := rfl
@[simp] theorem sendTxn_sendCalls (s : State) (b : List Byte) (n : Count) (q : Bool) : (s.sendTxn b n q).sendCalls = s.sendCalls + 1 := rfl
@[simp] theorem sendTxn_inspectErr (s : State) (b : List Byte) (n : Count) (q : Bool) : (s.sendTxn b n q).inspectErr = s.inspectErr := rfl
@[simp] theorem sendTxn_elapsed (s : State) (b : List Byte) (n : Count) (q : Bool) : (s.sendTxn b n q).elapsed = s.elapsed := rfl
@[simp] theorem sendTxn_report (s : State) (b : List Byte) (n : Count) (q : Bool) : (s.sendTxn b n q).report = s.report := rfl
@[simp] theorem sendTxn_trace (s : State) (b : List Byte) (n : Count) (q : Bool) : (s.sendTxn b n q).trace = s.trace ++ [.send b n q s.nextDraw.ok] := rfl
@[simp] theorem sendTxn_env (s : State) (b : List Byte) (n : Count) (q : Bool) : (s.sendTxn b n q).env = s.env := rfl
@[simp] theorem sendTxn_dev (s : State) (b : List Byte) (n : Count) (q : Bool) : (s.sendTxn b n q).dev = s.devAfterMode := rfl
@[simp] theorem sendTxn_devEpoch (s : State) (b : List Byte) (n : Count) (q : Bool) : (s.sendTxn b n q).devEpoch = s.devEpoch := rfl
@[simp] theorem sendTxn_answers (s : State) (b : List Byte) (n : Count) (q : Bool) : (s.sendTxn b n q).answers = s.answers.tail := rfl
@[simp] theorem sendTxn_drawn (s : State) (b : List Byte) (n : Count) (q : Bool) : (s.sendTxn b n q).drawn = s.dropDraw.drawn := rfl
@[simp] theorem sendTxn_port (s : State) (b : List Byte) (n : Count) (q : Bool) : (s.sendTxn b n q).port = s.port := rfl
@[simp] theorem sendTxn_ret (s : State) (b : List Byte) (n : Count) (q : Bool) : (s.sendTxn b n q).ret = s.ret := rfl

/-! ### sleepTxn -/

@[simp] theorem sleepTxn_params (s : State) (d : Ticks) : (s.sleepTxn d).params = s.params := rfl
@[simp] theorem sleepTxn_state (s : State) (d : Ticks) : (s.sleepTxn d).state = s.state := rfl
@[simp] theorem sleepTxn_step (s : State) (d : Ticks) : (s.sleepTxn d).step = s.step := rfl
@[simp] theorem sleepTxn_k (s : State) (d : Ticks) : (s.sleepTxn d).k = s.k := rfl
@[simp] theorem sleepTxn_dry (s : State) (d : Ticks) : (s.sleepTxn d).dry = s.dry := rfl
@[simp] theorem sleepTxn_diag (s : State) (d : Ticks) : (s.sleepTxn d).diag = s.diag := rfl
@[simp] theorem sleepTxn_owned (s : State) (d : Ticks) : (s.sleepTxn d).owned = s.owned := rfl
@[simp] theorem sleepTxn_err (s : State) (d : Ticks) : (s.sleepTxn d).err = s.err := rfl
@[simp] theorem sleepTxn_result (s : State) (d : Ticks) : (s.sleepTxn d).result = s.result := rfl
@[simp] theorem sleepTxn_sendFail (s : State) (d : Ticks) : (s.sleepTxn d).sendFail = s.sendFail := rfl
@[simp] theorem sleepTxn_sendCalls (s : State) (d : Ticks) : (s.sleepTxn d).sendCalls = s.sendCalls := rfl
@[simp] theorem sleepTxn_inspectErr (s : State) (d : Ticks) : (s.sleepTxn d).inspectErr = s.inspectErr := rfl
@[simp] theorem sleepTxn_elapsed (s : State) (d : Ticks) : (s.sleepTxn d).elapsed = s.elapsed + d := rfl
@[simp] theorem sleepTxn_report (s : State) (d : Ticks) : (s.sleepTxn d).report = s.report := rfl
@[simp] theorem sleepTxn_trace (s : State) (d : Ticks) : (s.sleepTxn d).trace = s.trace ++ [.sleep d] := rfl
@[simp] theorem sleepTxn_env (s : State) (d : Ticks) : (s.sleepTxn d).env = s.env := rfl
@[simp] theorem sleepTxn_dev (s : State) (d : Ticks) : (s.sleepTxn d).dev = s.dev := rfl
@[simp] theorem sleepTxn_devEpoch (s : State) (d : Ticks) : (s.sleepTxn d).devEpoch = s.devEpoch := rfl
@[simp] theorem sleepTxn_answers (s : State) (d : Ticks) : (s.sleepTxn d).answers = s.answers := rfl
@[simp] theorem sleepTxn_drawn (s : State) (d : Ticks) : (s.sleepTxn d).drawn = s.drawn := rfl
@[simp] theorem sleepTxn_port (s : State) (d : Ticks) : (s.sleepTxn d).port = s.port := rfl
@[simp] theorem sleepTxn_ret (s : State) (d : Ticks) : (s.sleepTxn d).ret = s.ret := rfl

/-! ### clearJob -/

@[simp] theorem clearJob_params (s : State) (g d : Bool) : (s.clearJob g d).params = s.params := rfl
@[simp] theorem clearJob_state (s : State) (g d : Bool) : (s.clearJob g d).state = s.state := rfl
@[simp] theorem clearJob_step (s : State) (g d : Bool) : (s.clearJob g d).step = 0 := rfl
@[simp] theorem clearJob_k (s : State) (g d : Bool) : (s.clearJob g d).k = 0#32 := rfl
@[simp] theorem clearJob_dry (s : State) (g d : Bool) : (s.clearJob g d).dry = d := rfl
@[simp] theorem clearJob_diag (s : State) (g d : Bool) : (s.clearJob g d).diag = g := rfl
@[simp] theorem clearJob_owned (s : State) (g d : Bool) : (s.clearJob g d).owned = s.owned := rfl
@[simp] theorem clearJob_err (s : State) (g d : Bool) : (s.clearJob g d).err = none := rfl
@[simp] theorem clearJob_result (s : State) (g d : Bool) : (s.clearJob g d).result = none := rfl
@[simp] theorem clearJob_sendFail (s : State) (g d : Bool) : (s.clearJob g d).sendFail = [] := rfl
@[simp] theorem clearJob_sendCalls (s : State) (g d : Bool) : (s.clearJob g d).sendCalls = 0 := rfl
@[simp] theorem clearJob_inspectErr (s : State) (g d : Bool) : (s.clearJob g d).inspectErr = none := rfl
@[simp] theorem clearJob_elapsed (s : State) (g d : Bool) : (s.clearJob g d).elapsed = 0 := rfl
@[simp] theorem clearJob_report (s : State) (g d : Bool) : (s.clearJob g d).report = [] := rfl
@[simp] theorem clearJob_trace (s : State) (g d : Bool) : (s.clearJob g d).trace = [] := rfl
@[simp] theorem clearJob_env (s : State) (g d : Bool) : (s.clearJob g d).env = s.env := rfl
@[simp] theorem clearJob_dev (s : State) (g d : Bool) : (s.clearJob g d).dev = s.dev := rfl
@[simp] theorem clearJob_devEpoch (s : State) (g d : Bool) : (s.clearJob g d).devEpoch = s.devEpoch := rfl
@[simp] theorem clearJob_answers (s : State) (g d : Bool) : (s.clearJob g d).answers = s.answers := rfl
@[simp] theorem clearJob_drawn (s : State) (g d : Bool) : (s.clearJob g d).drawn = s.drawn := rfl
@[simp] theorem clearJob_port (s : State) (g d : Bool) : (s.clearJob g d).port = s.port := rfl
@[simp] theorem clearJob_ret (s : State) (g d : Bool) : (s.clearJob g d).ret = s.ret := rfl

/-! ### finish -/

@[simp] theorem finish_params (s : State) : s.finish.params = s.params := rfl
@[simp] theorem finish_state (s : State) : s.finish.state = .idle := rfl
@[simp] theorem finish_step (s : State) : s.finish.step = s.step := rfl
@[simp] theorem finish_k (s : State) : s.finish.k = s.k := rfl
@[simp] theorem finish_dry (s : State) : s.finish.dry = s.dry := rfl
@[simp] theorem finish_diag (s : State) : s.finish.diag = s.diag := rfl
@[simp] theorem finish_owned (s : State) : s.finish.owned = false := rfl
@[simp] theorem finish_err (s : State) : s.finish.err = s.err := rfl
@[simp] theorem finish_result (s : State) : s.finish.result = some .ok := rfl
@[simp] theorem finish_sendFail (s : State) : s.finish.sendFail = s.sendFail := rfl
@[simp] theorem finish_sendCalls (s : State) : s.finish.sendCalls = s.sendCalls := rfl
@[simp] theorem finish_inspectErr (s : State) : s.finish.inspectErr = s.inspectErr := rfl
@[simp] theorem finish_elapsed (s : State) : s.finish.elapsed = s.elapsed := rfl
@[simp] theorem finish_report (s : State) : s.finish.report = s.report := rfl
@[simp] theorem finish_trace (s : State) : s.finish.trace = s.trace ++ [.release] := rfl
@[simp] theorem finish_env (s : State) : s.finish.env = s.env := rfl
@[simp] theorem finish_dev (s : State) : s.finish.dev = s.dev := rfl
@[simp] theorem finish_devEpoch (s : State) : s.finish.devEpoch = s.devEpoch := rfl
@[simp] theorem finish_answers (s : State) : s.finish.answers = s.answers := rfl
@[simp] theorem finish_drawn (s : State) : s.finish.drawn = s.drawn := rfl
@[simp] theorem finish_port (s : State) : s.finish.port = s.port := rfl
@[simp] theorem finish_ret (s : State) : s.finish.ret = s.ret := rfl

/-! ### advanceStep -/

@[simp] theorem advanceStep_params (s : State) : s.advanceStep.params = s.params := rfl
@[simp] theorem advanceStep_state (s : State) : s.advanceStep.state = s.state := rfl
@[simp] theorem advanceStep_k (s : State) : s.advanceStep.k = s.k := rfl
@[simp] theorem advanceStep_dry (s : State) : s.advanceStep.dry = s.dry := rfl
@[simp] theorem advanceStep_diag (s : State) : s.advanceStep.diag = s.diag := rfl
@[simp] theorem advanceStep_owned (s : State) : s.advanceStep.owned = s.owned := rfl
@[simp] theorem advanceStep_err (s : State) : s.advanceStep.err = s.err := rfl
@[simp] theorem advanceStep_result (s : State) : s.advanceStep.result = s.result := rfl
@[simp] theorem advanceStep_sendFail (s : State) : s.advanceStep.sendFail = s.sendFail := rfl
@[simp] theorem advanceStep_sendCalls (s : State) : s.advanceStep.sendCalls = s.sendCalls := rfl
@[simp] theorem advanceStep_inspectErr (s : State) : s.advanceStep.inspectErr = s.inspectErr := rfl
@[simp] theorem advanceStep_elapsed (s : State) : s.advanceStep.elapsed = s.elapsed := rfl
@[simp] theorem advanceStep_report (s : State) : s.advanceStep.report = s.report := rfl
@[simp] theorem advanceStep_trace (s : State) : s.advanceStep.trace = s.trace := rfl
@[simp] theorem advanceStep_env (s : State) : s.advanceStep.env = s.env := rfl
@[simp] theorem advanceStep_dev (s : State) : s.advanceStep.dev = s.dev := rfl
@[simp] theorem advanceStep_devEpoch (s : State) : s.advanceStep.devEpoch = s.devEpoch := rfl
@[simp] theorem advanceStep_answers (s : State) : s.advanceStep.answers = s.answers := rfl
@[simp] theorem advanceStep_drawn (s : State) : s.advanceStep.drawn = s.drawn := rfl
@[simp] theorem advanceStep_port (s : State) : s.advanceStep.port = s.port := rfl
@[simp] theorem advanceStep_ret (s : State) : s.advanceStep.ret = s.ret := rfl

/-! ### rdregTxn -/

@[simp] theorem rdregTxn_params (s : State) (a : Byte) : (s.rdregTxn a).params = s.params := rfl
@[simp] theorem rdregTxn_state (s : State) (a : Byte) : (s.rdregTxn a).state = s.state := rfl
@[simp] theorem rdregTxn_step (s : State) (a : Byte) : (s.rdregTxn a).step = s.step := rfl
@[simp] theorem rdregTxn_k (s : State) (a : Byte) : (s.rdregTxn a).k = s.k := rfl
@[simp] theorem rdregTxn_dry (s : State) (a : Byte) : (s.rdregTxn a).dry = s.dry := rfl
@[simp] theorem rdregTxn_diag (s : State) (a : Byte) : (s.rdregTxn a).diag = s.diag := rfl
@[simp] theorem rdregTxn_owned (s : State) (a : Byte) : (s.rdregTxn a).owned = s.owned := rfl
@[simp] theorem rdregTxn_err (s : State) (a : Byte) : (s.rdregTxn a).err = s.err := rfl
@[simp] theorem rdregTxn_result (s : State) (a : Byte) : (s.rdregTxn a).result = s.result := rfl
@[simp] theorem rdregTxn_sendFail (s : State) (a : Byte) : (s.rdregTxn a).sendFail = s.sendFail := rfl
@[simp] theorem rdregTxn_sendCalls (s : State) (a : Byte) : (s.rdregTxn a).sendCalls = s.sendCalls := rfl
@[simp] theorem rdregTxn_inspectErr (s : State) (a : Byte) : (s.rdregTxn a).inspectErr = s.inspectErr := rfl
@[simp] theorem rdregTxn_elapsed (s : State) (a : Byte) : (s.rdregTxn a).elapsed = s.elapsed := rfl
@[simp] theorem rdregTxn_report (s : State) (a : Byte) : (s.rdregTxn a).report = s.report := rfl
@[simp] theorem rdregTxn_env (s : State) (a : Byte) : (s.rdregTxn a).env = s.env := rfl
@[simp] theorem rdregTxn_dev (s : State) (a : Byte) : (s.rdregTxn a).dev = s.dev := rfl
@[simp] theorem rdregTxn_devEpoch (s : State) (a : Byte) : (s.rdregTxn a).devEpoch = s.devEpoch := rfl
@[simp] theorem rdregTxn_port (s : State) (a : Byte) : (s.rdregTxn a).port = s.port := rfl
@[simp] theorem rdregTxn_ret (s : State) (a : Byte) : (s.rdregTxn a).ret = s.ret := rfl

/-! ### deviceAfterError -/

@[simp] theorem deviceAfterError_params (s : State) (e : FatalError) : (s.deviceAfterError e).params = s.params := by
  cases e <;> simp only [State.deviceAfterError]; split <;> rfl
@[simp] theorem deviceAfterError_state (s : State) (e : FatalError) : (s.deviceAfterError e).state = s.state := by
  cases e <;> simp only [State.deviceAfterError]; split <;> rfl
@[simp] theorem deviceAfterError_step (s : State) (e : FatalError) : (s.deviceAfterError e).step = s.step := by
  cases e <;> simp only [State.deviceAfterError]; split <;> rfl
@[simp] theorem deviceAfterError_k (s : State) (e : FatalError) : (s.deviceAfterError e).k = s.k := by
  cases e <;> simp only [State.deviceAfterError]; split <;> rfl
@[simp] theorem deviceAfterError_dry (s : State) (e : FatalError) : (s.deviceAfterError e).dry = s.dry := by
  cases e <;> simp only [State.deviceAfterError]; split <;> rfl
@[simp] theorem deviceAfterError_diag (s : State) (e : FatalError) : (s.deviceAfterError e).diag = s.diag := by
  cases e <;> simp only [State.deviceAfterError]; split <;> rfl
@[simp] theorem deviceAfterError_owned (s : State) (e : FatalError) : (s.deviceAfterError e).owned = s.owned := by
  cases e <;> simp only [State.deviceAfterError]; split <;> rfl
@[simp] theorem deviceAfterError_err (s : State) (e : FatalError) : (s.deviceAfterError e).err = s.err := by
  cases e <;> simp only [State.deviceAfterError]; split <;> rfl
@[simp] theorem deviceAfterError_result (s : State) (e : FatalError) : (s.deviceAfterError e).result = s.result := by
  cases e <;> simp only [State.deviceAfterError]; split <;> rfl
@[simp] theorem deviceAfterError_sendFail (s : State) (e : FatalError) : (s.deviceAfterError e).sendFail = s.sendFail := by
  cases e <;> simp only [State.deviceAfterError]; split <;> rfl
@[simp] theorem deviceAfterError_sendCalls (s : State) (e : FatalError) : (s.deviceAfterError e).sendCalls = s.sendCalls := by
  cases e <;> simp only [State.deviceAfterError]; split <;> rfl
@[simp] theorem deviceAfterError_inspectErr (s : State) (e : FatalError) : (s.deviceAfterError e).inspectErr = s.inspectErr := by
  cases e <;> simp only [State.deviceAfterError]; split <;> rfl
@[simp] theorem deviceAfterError_elapsed (s : State) (e : FatalError) : (s.deviceAfterError e).elapsed = s.elapsed := by
  cases e <;> simp only [State.deviceAfterError]; split <;> rfl
@[simp] theorem deviceAfterError_report (s : State) (e : FatalError) : (s.deviceAfterError e).report = s.report := by
  cases e <;> simp only [State.deviceAfterError]; split <;> rfl
@[simp] theorem deviceAfterError_trace (s : State) (e : FatalError) : (s.deviceAfterError e).trace = s.trace := by
  cases e <;> simp only [State.deviceAfterError]; split <;> rfl
@[simp] theorem deviceAfterError_env (s : State) (e : FatalError) : (s.deviceAfterError e).env = s.env := by
  cases e <;> simp only [State.deviceAfterError]; split <;> rfl
@[simp] theorem deviceAfterError_answers (s : State) (e : FatalError) : (s.deviceAfterError e).answers = s.answers := by
  cases e <;> simp only [State.deviceAfterError]; split <;> rfl
@[simp] theorem deviceAfterError_drawn (s : State) (e : FatalError) : (s.deviceAfterError e).drawn = s.drawn := by
  cases e <;> simp only [State.deviceAfterError]; split <;> rfl
@[simp] theorem deviceAfterError_port (s : State) (e : FatalError) : (s.deviceAfterError e).port = s.port := by
  cases e <;> simp only [State.deviceAfterError]; split <;> rfl
@[simp] theorem deviceAfterError_ret (s : State) (e : FatalError) : (s.deviceAfterError e).ret = s.ret := by
  cases e <;> simp only [State.deviceAfterError]; split <;> rfl

/-! ### noteSend -/

@[simp] theorem noteSend_params (s : State) (b : Bool) : (s.noteSend b).params = s.params := by
  unfold State.noteSend; split <;> rfl
@[simp] theorem noteSend_state (s : State) (b : Bool) : (s.noteSend b).state = s.state := by
  unfold State.noteSend; split <;> rfl
@[simp] theorem noteSend_step (s : State) (b : Bool) : (s.noteSend b).step = s.step := by
  unfold State.noteSend; split <;> rfl
@[simp] theorem noteSend_k (s : State) (b : Bool) : (s.noteSend b).k = s.k := by
  unfold State.noteSend; split <;> rfl
@[simp] theorem noteSend_dry (s : State) (b : Bool) : (s.noteSend b).dry = s.dry := by
  unfold State.noteSend; split <;> rfl
@[simp] theorem noteSend_diag (s : State) (b : Bool) : (s.noteSend b).diag = s.diag := by
  unfold State.noteSend; split <;> rfl
@[simp] theorem noteSend_owned (s : State) (b : Bool) : (s.noteSend b).owned = s.owned := by
  unfold State.noteSend; split <;> rfl
@[simp] theorem noteSend_err (s : State) (b : Bool) : (s.noteSend b).err = s.err := by
  unfold State.noteSend; split <;> rfl
@[simp] theorem noteSend_result (s : State) (b : Bool) : (s.noteSend b).result = s.result := by
  unfold State.noteSend; split <;> rfl
@[simp] theorem noteSend_sendCalls (s : State) (b : Bool) : (s.noteSend b).sendCalls = s.sendCalls := by
  unfold State.noteSend; split <;> rfl
@[simp] theorem noteSend_inspectErr (s : State) (b : Bool) : (s.noteSend b).inspectErr = s.inspectErr := by
  unfold State.noteSend; split <;> rfl
@[simp] theorem noteSend_elapsed (s : State) (b : Bool) : (s.noteSend b).elapsed = s.elapsed := by
  unfold State.noteSend; split <;> rfl
@[simp] theorem noteSend_report (s : State) (b : Bool) : (s.noteSend b).report = s.report := by
  unfold State.noteSend; split <;> rfl
@[simp] theorem noteSend_trace (s : State) (b : Bool) : (s.noteSend b).trace = s.trace := by
  unfold State.noteSend; split <;> rfl
@[simp] theorem noteSend_env (s : State) (b : Bool) : (s.noteSend b).env = s.env := by
  unfold State.noteSend; split <;> rfl
@[simp] theorem noteSend_dev (s : State) (b : Bool) : (s.noteSend b).dev = s.dev := by
  unfold State.noteSend; split <;> rfl
@[simp] theorem noteSend_devEpoch (s : State) (b : Bool) : (s.noteSend b).devEpoch = s.devEpoch := by
  unfold State.noteSend; split <;> rfl
@[simp] theorem noteSend_answers (s : State) (b : Bool) : (s.noteSend b).answers = s.answers := by
  unfold State.noteSend; split <;> rfl
@[simp] theorem noteSend_drawn (s : State) (b : Bool) : (s.noteSend b).drawn = s.drawn := by
  unfold State.noteSend; split <;> rfl
@[simp] theorem noteSend_port (s : State) (b : Bool) : (s.noteSend b).port = s.port := by
  unfold State.noteSend; split <;> rfl
@[simp] theorem noteSend_ret (s : State) (b : Bool) : (s.noteSend b).ret = s.ret := by
  unfold State.noteSend; split <;> rfl

/-! ### releaseIfOwned -/

@[simp] theorem releaseIfOwned_params (s : State) : s.releaseIfOwned.params = s.params := by
  unfold State.releaseIfOwned; split <;> rfl
@[simp] theorem releaseIfOwned_state (s : State) : s.releaseIfOwned.state = s.state := by
  unfold State.releaseIfOwned; split <;> rfl
@[simp] theorem releaseIfOwned_step (s : State) : s.releaseIfOwned.step = s.step := by
  unfold State.releaseIfOwned; split <;> rfl
@[simp] theorem releaseIfOwned_k (s : State) : s.releaseIfOwned.k = s.k := by
  unfold State.releaseIfOwned; split <;> rfl
@[simp] theorem releaseIfOwned_dry (s : State) : s.releaseIfOwned.dry = s.dry := by
  unfold State.releaseIfOwned; split <;> rfl
@[simp] theorem releaseIfOwned_diag (s : State) : s.releaseIfOwned.diag = s.diag := by
  unfold State.releaseIfOwned; split <;> rfl
@[simp] theorem releaseIfOwned_err (s : State) : s.releaseIfOwned.err = s.err := by
  unfold State.releaseIfOwned; split <;> rfl
@[simp] theorem releaseIfOwned_result (s : State) : s.releaseIfOwned.result = s.result := by
  unfold State.releaseIfOwned; split <;> rfl
@[simp] theorem releaseIfOwned_sendFail (s : State) : s.releaseIfOwned.sendFail = s.sendFail := by
  unfold State.releaseIfOwned; split <;> rfl
@[simp] theorem releaseIfOwned_sendCalls (s : State) : s.releaseIfOwned.sendCalls = s.sendCalls := by
  unfold State.releaseIfOwned; split <;> rfl
@[simp] theorem releaseIfOwned_inspectErr (s : State) : s.releaseIfOwned.inspectErr = s.inspectErr := by
  unfold State.releaseIfOwned; split <;> rfl
@[simp] theorem releaseIfOwned_elapsed (s : State) : s.releaseIfOwned.elapsed = s.elapsed := by
  unfold State.releaseIfOwned; split <;> rfl
@[simp] theorem releaseIfOwned_report (s : State) : s.releaseIfOwned.report = s.report := by
  unfold State.releaseIfOwned; split <;> rfl
@[simp] theorem releaseIfOwned_env (s : State) : s.releaseIfOwned.env = s.env := by
  unfold State.releaseIfOwned; split <;> rfl
@[simp] theorem releaseIfOwned_dev (s : State) : s.releaseIfOwned.dev = s.dev := by
  unfold State.releaseIfOwned; split <;> rfl
@[simp] theorem releaseIfOwned_devEpoch (s : State) : s.releaseIfOwned.devEpoch = s.devEpoch := by
  unfold State.releaseIfOwned; split <;> rfl
@[simp] theorem releaseIfOwned_answers (s : State) : s.releaseIfOwned.answers = s.answers := by
  unfold State.releaseIfOwned; split <;> rfl
@[simp] theorem releaseIfOwned_drawn (s : State) : s.releaseIfOwned.drawn = s.drawn := by
  unfold State.releaseIfOwned; split <;> rfl
@[simp] theorem releaseIfOwned_port (s : State) : s.releaseIfOwned.port = s.port := by
  unfold State.releaseIfOwned; split <;> rfl
@[simp] theorem releaseIfOwned_ret (s : State) : s.releaseIfOwned.ret = s.ret := by
  unfold State.releaseIfOwned; split <;> rfl

/-! ### abort -/

@[simp] theorem abort_params (s : State) (e : FatalError) : (s.abort e).params = s.params := by simp [State.abort]
@[simp] theorem abort_state (s : State) (e : FatalError) : (s.abort e).state = .aborted := rfl
@[simp] theorem abort_step (s : State) (e : FatalError) : (s.abort e).step = s.step := by simp [State.abort]
@[simp] theorem abort_k (s : State) (e : FatalError) : (s.abort e).k = s.k := by simp [State.abort]
@[simp] theorem abort_dry (s : State) (e : FatalError) : (s.abort e).dry = s.dry := by simp [State.abort]
@[simp] theorem abort_diag (s : State) (e : FatalError) : (s.abort e).diag = s.diag := by simp [State.abort]
@[simp] theorem abort_err (s : State) (e : FatalError) : (s.abort e).err = some e := rfl
@[simp] theorem abort_result (s : State) (e : FatalError) : (s.abort e).result = some (.err e) := rfl
@[simp] theorem abort_sendFail (s : State) (e : FatalError) : (s.abort e).sendFail = s.sendFail := by simp [State.abort]
@[simp] theorem abort_sendCalls (s : State) (e : FatalError) : (s.abort e).sendCalls = s.sendCalls := by simp [State.abort]
@[simp] theorem abort_inspectErr (s : State) (e : FatalError) : (s.abort e).inspectErr = s.inspectErr := by simp [State.abort]
@[simp] theorem abort_elapsed (s : State) (e : FatalError) : (s.abort e).elapsed = s.elapsed := by simp [State.abort]
@[simp] theorem abort_report (s : State) (e : FatalError) : (s.abort e).report = s.report := by simp [State.abort]
@[simp] theorem abort_env (s : State) (e : FatalError) : (s.abort e).env = s.env := by simp [State.abort]
@[simp] theorem abort_answers (s : State) (e : FatalError) : (s.abort e).answers = s.answers := by simp [State.abort]
@[simp] theorem abort_drawn (s : State) (e : FatalError) : (s.abort e).drawn = s.drawn := by simp [State.abort]
@[simp] theorem abort_port (s : State) (e : FatalError) : (s.abort e).port = s.port := by simp [State.abort]
@[simp] theorem abort_ret (s : State) (e : FatalError) : (s.abort e).ret = s.ret := by simp [State.abort]

@[simp] theorem rdregTxn_trace (s : State) (a : Byte) :
    (s.rdregTxn a).trace = s.trace ++ [.rdreg a (s.readAnswer a)] := rfl

@[simp] theorem releaseIfOwned_owned (s : State) : s.releaseIfOwned.owned = false := by
  unfold State.releaseIfOwned
  split
  · rfl
  · simp_all

@[simp] theorem releaseIfOwned_trace (s : State) :
    s.releaseIfOwned.trace = s.trace ++ (if s.owned then [.release] else []) := by
  unfold State.releaseIfOwned
  split <;> simp_all

@[simp] theorem abort_owned (s : State) (e : FatalError) : (s.abort e).owned = false := by
  simp [State.abort]

@[simp] theorem abort_trace (s : State) (e : FatalError) :
    (s.abort e).trace = s.trace ++ (if s.owned then [.release] else []) := by
  simp [State.abort]

theorem abort_dev (s : State) (e : FatalError) : (s.abort e).dev = (s.deviceAfterError e).dev := by
  simp [State.abort]

theorem abort_devEpoch (s : State) (e : FatalError) : (s.abort e).devEpoch = (s.deviceAfterError e).devEpoch := by
  simp [State.abort]

end Sys2Proof.Laws
end

