-- ==== Sys2Proof/Laws/Ops.lean ====
section
/-!
SUPPORT. What each shared operation can do, said once: the register space, the environment's answers, the
abort path, runs of configuration writes, the inspector's loop, and sorting.
-/

namespace Sys2Proof.Laws

open Sys2Proof.Machine Sys2Proof.Safety

/-! ### The register space keeps its canonical form (R40) -/

/-- The canonical form, cell by cell. -/
theorem memory_wf_cons (c : Host.Cell) (cells : List Host.Cell) :
    Memory.wf (c :: cells) = true ↔
      (∀ d ∈ cells, c.1 < d.1) ∧ c.1 < 256 ∧ Memory.wf cells = true := by
  simp only [Memory.wf, Bool.and_eq_true, decide_eq_true_eq, List.pairwise_cons, List.all_cons]
  tauto

/-- A cell after a write was there before, or is the written one. -/
theorem mem_memory_write {cells : List Host.Cell} {x : Nat} {v : Byte} {c : Host.Cell}
    (h : c ∈ Memory.write cells x v) : c = (x, v) ∨ c ∈ cells := by
  induction cells with
  | nil => simpa [Memory.write] using h
  | cons d cells ih =>
    simp only [Memory.write] at h
    split at h
    · simpa using h
    · split at h
      · simp only [List.mem_cons] at h ⊢; tauto
      · simp only [List.mem_cons] at h ⊢; tauto

/-- A write keeps the canonical form. -/
theorem memory_write_wf {cells : List Host.Cell} {x : Nat} (v : Byte) (h : Memory.wf cells = true) (hx : x < 256) :
    Memory.wf (Memory.write cells x v) = true := by
  induction cells with
  | nil => simp [Memory.write, Memory.wf, hx]
  | cons c cells ih =>
    obtain ⟨hlt, hc, hw⟩ := (memory_wf_cons c cells).1 h
    simp only [Memory.write]
    split
    · next hxc =>
      refine (memory_wf_cons _ _).2 ⟨fun d hd => ?_, hx, h⟩
      rcases List.mem_cons.1 hd with rfl | hd
      · exact hxc
      · exact Nat.lt_trans hxc (hlt d hd)
    · split
      · next heq => exact (memory_wf_cons _ _).2 ⟨fun d hd => heq ▸ hlt d hd, hx, hw⟩
      · next hne heq =>
        refine (memory_wf_cons _ _).2 ⟨fun d hd => ?_, hc, ih hw⟩
        rcases mem_memory_write hd with rfl | hd
        · exact lt_of_le_of_ne (Nat.le_of_not_lt hne) (Ne.symm heq)
        · exact hlt d hd

/-- The register space of the reset state is canonical. -/
theorem reset_dev_wf (p : Params) : Memory.wf (State.resetWith p).dev = true := rfl

/-- WRREG keeps the canonical form. -/
theorem devAfterWrite_wf {s : State} (h : Memory.wf s.dev = true) (a v : Byte) :
    Memory.wf (s.devAfterWrite a v) = true := by
  unfold State.devAfterWrite
  split
  · exact memory_write_wf _ h a.isLt
  · exact h

/-- SETMODE, WAITRDY and SEND keep the canonical form. -/
theorem devAfterMode_wf {s : State} (h : Memory.wf s.dev = true) : Memory.wf s.devAfterMode = true := by
  unfold State.devAfterMode
  split
  · exact memory_write_wf _ h (s.params.addrOf .opmode).isLt
  · exact h

/-- ACQUIRE keeps the canonical form. -/
theorem deviceAfterAcquire_wf {s : State} (h : Memory.wf s.dev = true) :
    Memory.wf s.deviceAfterAcquire.dev = true := by
  unfold State.deviceAfterAcquire
  split
  · split
    · exact h
    · rfl
  · exact h

/-- A fatal error keeps the canonical form. -/
theorem deviceAfterError_wf {s : State} (h : Memory.wf s.dev = true) (e : FatalError) :
    Memory.wf (s.deviceAfterError e).dev = true := by
  unfold State.deviceAfterError
  split
  · split
    · rfl
    · exact h
  · exact h
  · exact h

/-! ### The environment's answers (R52) -/

/-- The next answer is the first of those still to come. -/
theorem nextDraw_eq (s : State) : s.nextDraw = drawAt s 0 := by
  unfold State.nextDraw drawAt
  cases h : s.answers <;> simp

/-- Using an answer moves the others up by one. -/
theorem drawAt_dropDraw (s : State) (i : Nat) : drawAt s.dropDraw i = drawAt s (i + 1) := by
  unfold drawAt
  cases h : s.answers with
  | nil => simp [h, Nat.add_comm, Nat.add_left_comm]
  | cons d ds => simp [h]

/-- The answers to come depend on `answers` and `drawn` alone. -/
theorem drawAt_congr {s t : State} (ha : t.answers = s.answers) (hd : t.drawn = s.drawn) (i : Nat) :
    drawAt t i = drawAt s i := by
  simp [drawAt, ha, hd]

/-- The next answer depends on `answers` and `drawn` alone. -/
theorem nextDraw_congr {s t : State} (ha : t.answers = s.answers) (hd : t.drawn = s.drawn) :
    t.nextDraw = s.nextDraw := by
  simp [nextDraw_eq, drawAt_congr ha hd]

/-- The event's answer, where the next draw is Ok. -/
theorem nextAnswer_of_ok {s : State} (h : s.nextDraw.ok = true) : s.nextAnswer = .ok := by
  simp [State.nextAnswer, h]

/-- The event's answer, where the next draw is not Ok. -/
theorem nextAnswer_of_err {s : State} (h : s.nextDraw.ok = false) : s.nextAnswer = .err := by
  simp [State.nextAnswer, h]

/-! Which operations use an answer (R50): `drawAt` before and after. -/

@[simp] theorem drawAt_acquireTxn (s : State) (i : Nat) : drawAt s.acquireTxn i = drawAt s (i + 1) :=
  (drawAt_congr rfl rfl i).trans (drawAt_dropDraw s i)

@[simp] theorem drawAt_wrregTxn (s : State) (a v : Byte) (i : Nat) : drawAt (s.wrregTxn a v) i = drawAt s (i + 1) :=
  (drawAt_congr rfl rfl i).trans (drawAt_dropDraw s i)

@[simp] theorem drawAt_setmodeTxn (s : State) (m : Mode) (i : Nat) : drawAt (s.setmodeTxn m) i = drawAt s (i + 1) :=
  (drawAt_congr rfl rfl i).trans (drawAt_dropDraw s i)

@[simp] theorem drawAt_waitrdyTxn (s : State) (t : Ticks) (i : Nat) : drawAt (s.waitrdyTxn t) i = drawAt s (i + 1) :=
  (drawAt_congr rfl rfl i).trans (drawAt_dropDraw s i)

@[simp] theorem drawAt_sendTxn (s : State) (payload : List Byte) (attempts : Count) (ack : Bool) (i : Nat) : drawAt (s.sendTxn payload attempts ack) i = drawAt s (i + 1) :=
  (drawAt_congr rfl rfl i).trans (drawAt_dropDraw s i)

@[simp] theorem drawAt_releaseTxn (s : State) (i : Nat) : drawAt s.releaseTxn i = drawAt s i :=
  drawAt_congr rfl rfl i

@[simp] theorem drawAt_sleepTxn (s : State) (d : Ticks) (i : Nat) : drawAt (s.sleepTxn d) i = drawAt s i :=
  drawAt_congr rfl rfl i

@[simp] theorem drawAt_clearJob (s : State) (diag dry : Bool) (i : Nat) : drawAt (s.clearJob diag dry) i = drawAt s i :=
  drawAt_congr rfl rfl i

@[simp] theorem drawAt_finish (s : State) (i : Nat) : drawAt s.finish i = drawAt s i :=
  drawAt_congr rfl rfl i

@[simp] theorem drawAt_advanceStep (s : State) (i : Nat) : drawAt s.advanceStep i = drawAt s i :=
  drawAt_congr rfl rfl i

@[simp] theorem drawAt_noteSend (s : State) (sent : Bool) (i : Nat) : drawAt (s.noteSend sent) i = drawAt s i :=
  drawAt_congr (noteSend_answers s sent) (noteSend_drawn s sent) i

@[simp] theorem drawAt_abort (s : State) (e : FatalError) (i : Nat) : drawAt (s.abort e) i = drawAt s i :=
  drawAt_congr (abort_answers s e) (abort_drawn s e) i

/-- RDREG uses an answer under the unconstrained environment only (R52, R53). -/
theorem drawAt_rdregTxn (s : State) (a : Byte) (i : Nat) :
    drawAt (s.rdregTxn a) i = if s.env = .ideal then drawAt s i else drawAt s (i + 1) := by
  split
  · next h => exact drawAt_congr (by simp [State.rdregTxn, h]) (by simp [State.rdregTxn, h]) i
  · next h => exact (drawAt_congr (by simp [State.rdregTxn, h]) (by simp [State.rdregTxn, h]) i).trans (drawAt_dropDraw s i)

/-! ### A fatal error (R157, R180) -/

/-- The abort path, field by field. -/
theorem abort_eq (s : State) (e : FatalError) :
    s.abort e = { s with
      state := .aborted
      err := some e
      result := some (.err e)
      owned := false
      trace := s.trace ++ releaseEvents s
      dev := (s.deviceAfterError e).dev
      devEpoch := (s.deviceAfterError e).devEpoch } := by
  unfold State.abort State.releaseIfOwned releaseEvents State.deviceAfterError
  cases e <;> simp only <;> split <;> (try split) <;> simp_all [State.releaseTxn]

/-- Without the ideal device in a job's hands, a fatal error touches no register of the device. -/
theorem deviceAfterError_of_not_held {s : State} (h : s.owned = false ∨ s.env = .unconstrained) (e : FatalError) :
    s.deviceAfterError e = s := by
  unfold State.deviceAfterError
  split
  · rw [if_neg]
    rintro ⟨ho, hi⟩
    rcases h with h | h <;> simp_all
  · rfl
  · rfl

/-- After the device has been forgotten no register has a known value (R36, R197). -/
@[simp] theorem forgetDevice_devRead (s : State) (a : Nat) :
    s.forgetDevice.devRead a = Config.unknownByte (s.devEpoch + 1) a := rfl

/-- ACQUIRE leaves the device's registers as they were, or forgets them (R36, R140). -/
theorem deviceAfterAcquire_cases (s : State) :
    s.deviceAfterAcquire = s ∨ s.env = .ideal ∧ s.deviceAfterAcquire = s.forgetDevice := by
  unfold State.deviceAfterAcquire
  split
  · split
    · exact .inl rfl
    · next h _ => exact .inr ⟨h, rfl⟩
  · exact .inl rfl

/-- The device after ACQUIRE's transaction, as claims state it. -/
theorem acquireTxn_device (s : State) : AcquiredDevice s s.acquireTxn := by
  rcases deviceAfterAcquire_cases s with h | ⟨hi, h⟩
  · have hs : SameDevice s s.acquireTxn := fun a => by simp [State.devRead, h]
    exact ⟨fun _ => hs, fun _ => .inl hs⟩
  · exact ⟨fun hu => (by simp [hu] at hi), fun _ => .inr ⟨by simp [h], fun a => by
      simp [State.devRead, h, Memory.read]⟩⟩

/-- While a job holds the ideal device, a failed write leaves no register with a known value (R197). -/
theorem deviceAfterError_held {s : State} (ho : s.owned = true) (hi : s.env = .ideal) (l : Label) :
    s.deviceAfterError (.writeFailed l) = s.forgetDevice := by
  simp [State.deviceAfterError, ho, hi]

/-- ACQUIRE (R140): one event and OWNED, or the abort path. -/
theorem acquire_eq (s : State) :
    s.acquire = if s.nextDraw.ok then s.acquireTxn else s.acquireTxn.abort .deviceUnavailable := rfl

/-- RDREG's answer under the ideal device (R53). -/
theorem readAnswer_ideal {s : State} (h : s.env = .ideal) (a : Byte) :
    s.readAnswer a = .ok (s.devRead a.toNat) := by
  simp [State.readAnswer, h]

/-- RDREG under the ideal device uses no answer and traces one event (R45, R53). -/
theorem rdregTxn_ideal {s : State} (h : s.env = .ideal) (a : Byte) :
    s.rdregTxn a = { s with trace := s.trace ++ [.rdreg a (.ok (s.devRead a.toNat))] } := by
  simp [State.rdregTxn, h, readAnswer_ideal h]

/-- RDREG under the unconstrained environment uses one answer (R52). -/
theorem rdregTxn_unconstrained {s : State} (h : s.env = .unconstrained) (a : Byte) :
    s.rdregTxn a = { s.dropDraw with trace := s.trace ++ [.rdreg a (s.readAnswer a)] } := by
  simp [State.rdregTxn, h, State.dropDraw]

/-! ### Runs of configuration writes (R91, R102) -/

/-- The empty run. -/
@[simp] theorem writeEntries_nil (s : State) : State.writeEntries [] s = (.ok, s) := rfl

/-- An entry whose write is answered Ok: the rest follows. -/
theorem writeEntries_cons_ok {s : State} (h : s.nextDraw.ok = true) (l : Label) (b : Byte) (es : List CfgEntry) :
    State.writeEntries (⟨l, .byte b⟩ :: es) s
      = State.writeEntries es (s.wrregTxn (s.params.addrOf l) b) := by
  simp [State.writeEntries, h]

/-- An entry whose write is answered Err: the run stops there. -/
theorem writeEntries_cons_err {s : State} (h : s.nextDraw.ok = false) (l : Label) (b : Byte) (es : List CfgEntry) :
    State.writeEntries (⟨l, .byte b⟩ :: es) s
      = (.failed l, s.wrregTxn (s.params.addrOf l) b) := by
  simp [State.writeEntries, h]

/-- Whatever its outcome, a run of writes changes TRACE, the device and the answers, and nothing else. -/
theorem writeEntries_frame (es : List CfgEntry) (s : State) :
    (State.writeEntries es s).2 = { s with
      trace := (State.writeEntries es s).2.trace
      dev := (State.writeEntries es s).2.dev
      answers := (State.writeEntries es s).2.answers
      drawn := (State.writeEntries es s).2.drawn } := by
  induction es generalizing s with
  | nil => rfl
  | cons e es ih =>
    simp only [State.writeEntries]
    split
    · rfl
    · split
      · rw [ih]; simp [State.wrregTxn, State.dropDraw]
      · simp [State.wrregTxn, State.dropDraw]

/-- One write of a byte, or the abort path (R143). -/
theorem memWrite_eq (s : State) (l : Label) (a v : Byte) :
    s.memWrite l a v = if s.nextDraw.ok then s.wrregTxn a v else (s.wrregTxn a v).abort (.writeFailed l) := rfl

/-- A configuration word is the WRREG of its address and byte (R68, R143). -/
theorem execWord_append (s : State) (a v : Byte) :
    s.execWord (a ++ v) = s.memWrite (s.params.reportedLabel a) a v := by
  rw [State.execWord, (split_word a v).1, (split_word a v).2]

/-- The run of one entry, its byte known: one write, or the abort path. -/
theorem runEntries_single (s : State) (l : Label) (b : Byte) :
    s.runEntries [⟨l, .byte b⟩]
      = if s.nextDraw.ok then s.wrregTxn (s.params.addrOf l) b
        else (s.wrregTxn (s.params.addrOf l) b).abort (.writeFailed l) := by
  unfold State.runEntries
  cases h : s.nextDraw.ok
  · simp [writeEntries_cons_err h]
  · simp [writeEntries_cons_ok h]

/-! ### The inspector's loop (R110, R118) -/

/-- INSPECT's loop changes TRACE, REPORT, INSPECT_ERR and the answers, and nothing else. -/
theorem inspectLoop_frame (ls : List Label) (seen : List (Label × Byte)) (s : State) :
    State.inspectLoop ls seen s = { s with
      trace := (State.inspectLoop ls seen s).trace
      report := (State.inspectLoop ls seen s).report
      inspectErr := (State.inspectLoop ls seen s).inspectErr
      answers := (State.inspectLoop ls seen s).answers
      drawn := (State.inspectLoop ls seen s).drawn } := by
  induction ls generalizing seen s with
  | nil => rfl
  | cons l ls ih =>
    simp only [State.inspectLoop]
    split
    · simp [State.rdregTxn]
    · rw [ih]; simp [State.rdregTxn]

/-- The same of INSPECT on modelled labels. -/
theorem inspectLabels_frame (s : State) (ls : List Label) :
    s.inspectLabels ls = { s with
      trace := (s.inspectLabels ls).trace
      report := (s.inspectLabels ls).report
      inspectErr := (s.inspectLabels ls).inspectErr
      answers := (s.inspectLabels ls).answers
      drawn := (s.inspectLabels ls).drawn } := by
  unfold State.inspectLabels
  rw [inspectLoop_frame]

/-! ### Failed sends (R16) -/

/-- The failed sends of two stretches of TRACE: those of the first, then those of the second, numbered on. -/
theorem failedSends_append (n : Nat) (xs ys : List Event) :
    failedSends n (xs ++ ys) = failedSends n xs ++ failedSends (n + xs.countP isSend) ys := by
  induction xs generalizing n with
  | nil => simp [failedSends]
  | cons e xs ih =>
    cases e with
    | send b k q sent => cases sent <;> simp [failedSends, ih, List.countP_cons, isSend, Nat.add_assoc, Nat.add_comm 1]
    | _ => simp [failedSends, ih, isSend]

/-! ### Sorting (R80, R110) -/

/-- Insertion adds the element. -/
theorem insertSorted_perm {α : Type} (key : α → Nat) (x : α) (xs : List α) :
    (insertSorted key x xs).Perm (x :: xs) := by
  induction xs with
  | nil => rfl
  | cons y ys ih =>
    simp only [insertSorted]
    split
    · rfl
    · exact (ih.cons y).trans (List.Perm.swap x y ys)

/-- Sorting only reorders. -/
theorem sortByKey_perm {α : Type} (key : α → Nat) (xs : List α) : (sortByKey key xs).Perm xs := by
  induction xs with
  | nil => rfl
  | cons x xs ih => exact (insertSorted_perm key x _).trans (ih.cons x)

/-- Insertion keeps ascending order. -/
theorem insertSorted_sorted {α : Type} (key : α → Nat) (x : α) {xs : List α}
    (h : xs.Pairwise (fun a b => key a ≤ key b)) :
    (insertSorted key x xs).Pairwise (fun a b => key a ≤ key b) := by
  induction xs with
  | nil => simp [insertSorted]
  | cons y ys ih =>
    rw [List.pairwise_cons] at h
    simp only [insertSorted]
    split
    · next hxy =>
      refine List.pairwise_cons.2 ⟨fun z hz => ?_, List.pairwise_cons.2 h⟩
      rcases List.mem_cons.1 hz with rfl | hz
      · exact hxy
      · exact Nat.le_trans hxy (h.1 z hz)
    · next hxy =>
      refine List.pairwise_cons.2 ⟨fun z hz => ?_, ih h.2⟩
      rcases List.mem_cons.1 ((insertSorted_perm key x ys).mem_iff.1 hz) with rfl | hz
      · omega
      · exact h.1 z hz

/-- Sorting gives ascending order of the key. -/
theorem sortByKey_sorted {α : Type} (key : α → Nat) (xs : List α) :
    (sortByKey key xs).Pairwise (fun a b => key a ≤ key b) := by
  induction xs with
  | nil => exact List.Pairwise.nil
  | cons x xs ih => exact insertSorted_sorted key x ih

/-- The labels INSPECT reads are the members of its list (R110). -/
@[simp] theorem mem_byAddress (p : Params) (ls : List Label) (l : Label) : l ∈ Machine.Params.byAddress p ls ↔ l ∈ ls :=
  ((sortByKey_perm _ _).mem_iff).trans List.mem_dedup

/-- INSPECT reads no label twice (R110). -/
theorem byAddress_nodup (p : Params) (ls : List Label) : (Machine.Params.byAddress p ls).Nodup :=
  (sortByKey_perm _ _).nodup_iff.2 (List.nodup_dedup ls)

/-- INSPECT reads in ascending order of address (R110). -/
theorem byAddress_sorted (p : Params) (ls : List Label) :
    (Machine.Params.byAddress p ls).Pairwise (fun l m => (p.addrOf l).toNat ≤ (p.addrOf m).toNat) :=
  sortByKey_sorted _ _

/-! ### Labels -/

/-- A label is named by its number. -/
@[simp] theorem ofCode_code (l : Label) : Label.ofCode? (BitVec.ofNat 8 l.code.val) = some l := by
  cases l <;> rfl

/-- The modelled labels, named by their numbers, are resolved (R110). -/
@[simp] theorem resolveLabels_codes (ls : List Label) :
    resolveLabels (ls.map (fun l => BitVec.ofNat 8 l.code.val)) = .ok ls := by
  induction ls with
  | nil => rfl
  | cons l ls ih => simp [resolveLabels, ih]

end Sys2Proof.Laws
end

