-- ==== Sys2Proof/Laws/PerInstr.lean ====
section
/-!
SUPPORT. Per instruction: decoding the request that carries a well-formed operation gives it back
(spec/30_encoding.md R62, R66 to R70; log entry 3).
-/

namespace Sys2Proof.Laws

/-- The round trip of one operation. -/
def EncodeRoundTrip.Statement (i : Instr) : Prop :=
  i.wellFormed = true → decodeRequest (encodeRequest i) = .ok i

theorem EncodeRoundTrip.decode (label : Byte) (raw : Byte) : EncodeRoundTrip.Statement (.decode label raw) := fun _ => rfl

theorem EncodeRoundTrip.fieldValue (label : Byte) (field : Byte) (raw : Byte) : EncodeRoundTrip.Statement (.fieldValue label field raw) := fun _ => rfl

theorem EncodeRoundTrip.fieldInsert (label : Byte) (vals : List (Byte × BitVec 16)) : EncodeRoundTrip.Statement (.fieldInsert label vals) := by
  intro h
  simp only [Instr.wellFormed, Bool.and_eq_true, decide_eq_true_eq] at h
  have hn : (BitVec.ofNat 8 vals.length : Byte).toNat = vals.length := by
    simp only [BitVec.toNat_ofNat]; omega
  have hp := takePairs_pairBytes vals []
  rw [List.append_nil] at hp
  simp [encodeRequest, decodeRequest, decodeOperation, decodeFieldInsert, hn, hp, h.1]

theorem EncodeRoundTrip.encode : EncodeRoundTrip.Statement .encode := fun _ => rfl

theorem EncodeRoundTrip.run (diag : Bool) (dry : Bool) : EncodeRoundTrip.Statement (.run diag dry) := by
  unfold EncodeRoundTrip.Statement; cases diag <;> cases dry <;> decide

theorem EncodeRoundTrip.apply : EncodeRoundTrip.Statement .apply := fun _ => rfl

theorem EncodeRoundTrip.inspect (labels : List Byte) : EncodeRoundTrip.Statement (.inspect labels) := by
  intro h
  simp only [Instr.wellFormed, decide_eq_true_eq] at h
  have hn : (BitVec.ofNat 8 labels.length : Byte).toNat = labels.length := by
    simp only [BitVec.toNat_ofNat]; omega
  have hp := takeBytes_append labels []
  rw [List.append_nil] at hp
  simp [encodeRequest, decodeRequest, decodeOperation, decodeInspect, hn, hp]

theorem EncodeRoundTrip.cfgFreq : EncodeRoundTrip.Statement .cfgFreq := fun _ => rfl

theorem EncodeRoundTrip.cfgDatamodul : EncodeRoundTrip.Statement .cfgDatamodul := fun _ => rfl

theorem EncodeRoundTrip.cfgPacket : EncodeRoundTrip.Statement .cfgPacket := fun _ => rfl

theorem EncodeRoundTrip.cfgPaylen : EncodeRoundTrip.Statement .cfgPaylen := fun _ => rfl

theorem EncodeRoundTrip.cfgFifo : EncodeRoundTrip.Statement .cfgFifo := fun _ => rfl

theorem EncodeRoundTrip.cfgPreambleSync : EncodeRoundTrip.Statement .cfgPreambleSync := fun _ => rfl

theorem EncodeRoundTrip.cfgBitrate : EncodeRoundTrip.Statement .cfgBitrate := fun _ => rfl

theorem EncodeRoundTrip.cfgPaOcp : EncodeRoundTrip.Statement .cfgPaOcp := fun _ => rfl

theorem EncodeRoundTrip.wrFrfMsb (f : Byte) : EncodeRoundTrip.Statement (.wrFrfMsb f) := by
  unfold EncodeRoundTrip.Statement; revert f; decide

theorem EncodeRoundTrip.wrFrfMid (g : Byte) : EncodeRoundTrip.Statement (.wrFrfMid g) := by
  unfold EncodeRoundTrip.Statement; revert g; decide

theorem EncodeRoundTrip.wrFrfLsb (h : Byte) : EncodeRoundTrip.Statement (.wrFrfLsb h) := by
  unfold EncodeRoundTrip.Statement; revert h; decide

theorem EncodeRoundTrip.wrDatamodul : EncodeRoundTrip.Statement .wrDatamodul := fun _ => rfl

theorem EncodeRoundTrip.wrPacketConfig1 : EncodeRoundTrip.Statement .wrPacketConfig1 := fun _ => rfl

theorem EncodeRoundTrip.wrPayloadLength : EncodeRoundTrip.Statement .wrPayloadLength := fun _ => rfl

theorem EncodeRoundTrip.wrFifoThresh (t : BitVec 7) : EncodeRoundTrip.Statement (.wrFifoThresh t) := by
  unfold EncodeRoundTrip.Statement; revert t; decide

theorem EncodeRoundTrip.wrPreambleMsb : EncodeRoundTrip.Statement .wrPreambleMsb := fun _ => rfl

theorem EncodeRoundTrip.wrPreambleLsb : EncodeRoundTrip.Statement .wrPreambleLsb := fun _ => rfl

theorem EncodeRoundTrip.wrSyncConfig (s : BitVec 3) : EncodeRoundTrip.Statement (.wrSyncConfig s) := by
  unfold EncodeRoundTrip.Statement; revert s; decide

theorem EncodeRoundTrip.wrBitrateMsb (m : Byte) : EncodeRoundTrip.Statement (.wrBitrateMsb m) := by
  unfold EncodeRoundTrip.Statement; revert m; decide

theorem EncodeRoundTrip.wrBitrateLsb (l : Byte) : EncodeRoundTrip.Statement (.wrBitrateLsb l) := by
  unfold EncodeRoundTrip.Statement; revert l; decide

theorem EncodeRoundTrip.wrPaLevel (a : BitVec 3) (p : BitVec 5) : EncodeRoundTrip.Statement (.wrPaLevel a p) := by
  unfold EncodeRoundTrip.Statement; revert a p; decide

theorem EncodeRoundTrip.wrOcp (c : BitVec 4) : EncodeRoundTrip.Statement (.wrOcp c) := by
  unfold EncodeRoundTrip.Statement; revert c; decide

theorem EncodeRoundTrip.acquire : EncodeRoundTrip.Statement .acquire := fun _ => rfl

theorem EncodeRoundTrip.release : EncodeRoundTrip.Statement .release := fun _ => rfl

theorem EncodeRoundTrip.rdreg (a : Byte) : EncodeRoundTrip.Statement (.rdreg a) := fun _ => rfl

theorem EncodeRoundTrip.wrreg (a v : Byte) : EncodeRoundTrip.Statement (.wrreg a v) := fun _ => rfl

theorem EncodeRoundTrip.setmode (m : Mode) : EncodeRoundTrip.Statement (.setmode m) := by
  unfold EncodeRoundTrip.Statement; cases m <;> decide

theorem EncodeRoundTrip.waitrdy (t : Ticks) : EncodeRoundTrip.Statement (.waitrdy t) := by
  intro h
  simp only [Instr.wellFormed, decide_eq_true_eq] at h
  have hp := takeBytes_append (bytesBE 4 t) []
  rw [List.append_nil] at hp
  simp [encodeRequest, decodeRequest, decodeOperation, decodeDuration, takeNat,
    show takeBytes 4 (bytesBE 4 t) = some (bytesBE 4 t, []) from hp, natBE_four_bytes h]

theorem EncodeRoundTrip.send (payload : List Byte) (attempts : Count) (requireAck : Bool) : EncodeRoundTrip.Statement (.send payload attempts requireAck) := by
  intro h
  simp only [Instr.wellFormed, decide_eq_true_eq] at h
  simp only [encodeRequest, decodeRequest, decodeOperation, List.cons_append, BitVec.toNat_ofNat, Nat.reducePow, Nat.reduceMod,
    List.append_assoc, decodeSend_encoded h]

theorem EncodeRoundTrip.sleep (d : Ticks) : EncodeRoundTrip.Statement (.sleep d) := by
  intro h
  simp only [Instr.wellFormed, decide_eq_true_eq] at h
  have hp := takeBytes_append (bytesBE 4 d) []
  rw [List.append_nil] at hp
  simp [encodeRequest, decodeRequest, decodeOperation, decodeDuration, takeNat,
    show takeBytes 4 (bytesBE 4 d) = some (bytesBE 4 d, []) from hp, natBE_four_bytes h]

end Sys2Proof.Laws
end

