-- ==== Sys2Proof/Tests/Slice0.lean ====
section
/-!
SUPPORT. The model's own tests: ill-formed operations, words written out from the spec's encodings, vectors of
spec/95_test_vectors.md (each test names its vector; expected results are the spec's), and for every statement
with hypotheses a state and operands that meet them (`test_witness_<statement>`).
-/

namespace Sys2Proof.Tests

open Sys2Proof Sys2Proof.Machine Sys2Proof.Safety

/-! ## Helpers -/

/-- An Ok answer bringing a byte. -/
def good (b : Byte) : Draw := ⟨true, b⟩

/-- A failing answer. -/
def bad : Draw := ⟨false, 0x00#8⟩

/-- The reset state under P0 with answers already chosen. -/
def scripted (answers : List Draw) : State :=
  { State.resetWith Params.p0 with answers := answers }

/-- The same with the ideal device, its registers given. -/
def device (dev : List Host.Cell) (answers : List Draw) : State :=
  { State.resetWith Params.p0 with env := .ideal, dev := dev, answers := answers }

/-- A job under way, holding the device. -/
def inJob (state : JobState) (step : Fin 17) (answers : List Draw) : State :=
  { scripted answers with state := state, step := step, owned := true }

/-- P0 with other fields for one register. -/
def withFields (register : Fin 39) (fields : List FieldDef) : Params :=
  { Params.p0 with layout := Params.p0.layout.set register fields }

/-- What a step gives satisfies a check; false where it stops. -/
def gives (o : Host.Outcome State Fault Refusal) (check : State → Bool) : Bool :=
  match o with
  | .next t => check t
  | .fault _ => false
  | .refused _ => false

/-- The reason of a refusal. -/
def refusalOf (o : Host.Outcome State Fault Refusal) : Option Refusal :=
  match o with
  | .refused r => some r
  | .next _ => none
  | .fault _ => none

/-! ## Ill-formed operations are refused -/

theorem test_wf_repeated_field :
    (Instr.fieldInsert 8#8 [(17#8, 1#16), (17#8, 2#16)]).wellFormed = false := by decide

theorem test_wf_too_many_pairs (label : Byte) (vals : List (Byte × BitVec 16)) (h : vals.length = 256) :
    (Instr.fieldInsert label vals).wellFormed = false := by
  simp [Instr.wellFormed, h]

theorem test_wf_too_many_labels (labels : List Byte) (h : labels.length = 256) :
    (Instr.inspect labels).wellFormed = false := by
  simp [Instr.wellFormed, h]

theorem test_wf_long_wait : (Instr.waitrdy (2 ^ 32)).wellFormed = false := by decide

theorem test_wf_long_sleep : (Instr.sleep (2 ^ 32)).wellFormed = false := by decide

theorem test_wf_long_payload (attempts : Count) (ack : Bool) :
    (Instr.send (List.replicate (2 ^ 16) 0x00#8) attempts ack).wellFormed = false := by
  rw [Instr.wellFormed, List.length_replicate]
  rfl

theorem test_repeated_name_does_not_decode :
    decodeRequest (.operation [0x03#8, 8#8, 2#8, 17#8, 0#8, 1#8, 17#8, 0#8, 2#8]) = .error .repeatedName := by
  decide

/-! ## Words written out from the encodings of spec/30_encoding.md -/

/-- R67: 0001 00 diag dry; every other word is refused (V41, V41a). -/
theorem test_command_words :
    decodeRequest (.command 0b00010000#8) = .ok (.run false false) ∧
    decodeRequest (.command 0b00010001#8) = .ok (.run false true) ∧
    decodeRequest (.command 0b00010010#8) = .ok (.run true false) ∧
    decodeRequest (.command 0b00010011#8) = .ok (.run true true) ∧
    decodeRequest (.command 0b00010100#8) = .error (.refusedCommand 0x14#8) ∧
    decodeRequest (.command 0b10010000#8) = .error (.refusedCommand 0x90#8) ∧
    decodeRequest (.command 0b00011111#8) = .error (.refusedCommand 0x1F#8) := by decide

/-- R68, the seven words of steps 1 to 5. -/
theorem test_config_words_frequency_to_fifo :
    decodeRequest (.configWord 0b0000011101101100#16) = .ok (.wrFrfMsb 0b01101100#8) ∧
    decodeRequest (.configWord 0b0000100001111010#16) = .ok (.wrFrfMid 0b01111010#8) ∧
    decodeRequest (.configWord 0b0000100111100001#16) = .ok (.wrFrfLsb 0b11100001#8) ∧
    decodeRequest (.configWord 0b0000001000001000#16) = .ok .wrDatamodul ∧
    decodeRequest (.configWord 0b0011011100000000#16) = .ok .wrPacketConfig1 ∧
    decodeRequest (.configWord 0b0011100000000000#16) = .ok .wrPayloadLength ∧
    decodeRequest (.configWord 0b0011110010001111#16) = .ok (.wrFifoThresh 0b0001111#7) := by decide

/-- R68, the seven words of steps 6 to 8. -/
theorem test_config_words_preamble_to_ocp :
    decodeRequest (.configWord 0b0010110000000000#16) = .ok .wrPreambleMsb ∧
    decodeRequest (.configWord 0b0010110100000000#16) = .ok .wrPreambleLsb ∧
    decodeRequest (.configWord 0b0010111000101000#16) = .ok (.wrSyncConfig 0b101#3) ∧
    decodeRequest (.configWord 0b0000001101011001#16) = .ok (.wrBitrateMsb 0b01011001#8) ∧
    decodeRequest (.configWord 0b0000010001001001#16) = .ok (.wrBitrateLsb 0b01001001#8) ∧
    decodeRequest (.configWord 0b0001000101111111#16) = .ok (.wrPaLevel 0b011#3 0b11111#5) ∧
    decodeRequest (.configWord 0b0001001100001010#16) = .ok (.wrOcp 0b1010#4) := by decide

/-- R68, R143: a word that is none of the 14 is the WRREG of its address and byte. -/
theorem test_other_config_words :
    decodeRequest (.configWord 0x0209#16) = .ok (.wrreg 0x02#8 0x09#8) ∧
    decodeRequest (.configWord 0x3C0F#16) = .ok (.wrreg 0x3C#8 0x0F#8) ∧
    decodeRequest (.configWord 0x2E01#16) = .ok (.wrreg 0x2E#8 0x01#8) ∧
    decodeRequest (.configWord 0x2E80#16) = .ok (.wrreg 0x2E#8 0x80#8) ∧
    decodeRequest (.configWord 0x131F#16) = .ok (.wrreg 0x13#8 0x1F#8) ∧
    decodeRequest (.configWord 0x0608#16) = .ok (.wrreg 0x06#8 0x08#8) := by decide

/-- R66, the identifiers of the pure functions and composites; operand bytes of log entry 3. -/
theorem test_pure_and_composite_identifiers :
    decodeRequest (.operation [0x01#8, 1#8, 0x08#8]) = .ok (.decode 1#8 0x08#8) ∧
    decodeRequest (.operation [0x02#8, 8#8, 17#8, 0x0F#8]) = .ok (.fieldValue 8#8 17#8 0x0F#8) ∧
    decodeRequest (.operation [0x03#8, 8#8, 1#8, 17#8, 0x01#8, 0x02#8]) = .ok (.fieldInsert 8#8 [(17#8, 0x0102#16)]) ∧
    decodeRequest (.operation [0x04#8]) = .ok .encode ∧
    decodeRequest (.operation [0x11#8]) = .ok .apply ∧
    decodeRequest (.operation [0x12#8, 2#8, 8#8, 1#8]) = .ok (.inspect [8#8, 1#8]) := by decide

/-- R66, the identifiers of the eight configuration steps. -/
theorem test_step_identifiers :
    decodeRequest (.operation [0x21#8]) = .ok .cfgFreq ∧ decodeRequest (.operation [0x22#8]) = .ok .cfgDatamodul ∧
    decodeRequest (.operation [0x23#8]) = .ok .cfgPacket ∧ decodeRequest (.operation [0x24#8]) = .ok .cfgPaylen ∧
    decodeRequest (.operation [0x25#8]) = .ok .cfgFifo ∧
    decodeRequest (.operation [0x26#8]) = .ok .cfgPreambleSync ∧
    decodeRequest (.operation [0x27#8]) = .ok .cfgBitrate ∧ decodeRequest (.operation [0x28#8]) = .ok .cfgPaOcp := by
  decide

/-- R66, R69, the identifiers of the eight transactions. -/
theorem test_transaction_identifiers :
    decodeRequest (.operation [0x30#8]) = .ok .acquire ∧ decodeRequest (.operation [0x31#8]) = .ok .release ∧
    decodeRequest (.operation [0x32#8, 0x13#8]) = .ok (.rdreg 0x13#8) ∧
    decodeRequest (.operation [0x33#8, 0x02#8, 0x08#8]) = .ok (.wrreg 0x02#8 0x08#8) ∧
    decodeRequest (.operation [0x34#8, 1#8]) = .ok (.setmode .standby) ∧
    decodeRequest (.operation [0x35#8, 0#8, 0#8, 0x03#8, 0xE8#8]) = .ok (.waitrdy 1000) ∧
    decodeRequest (.operation [0x36#8, 0#8, 2#8, 0xAA#8, 0x55#8, 0#8, 0#8, 0#8, 1#8, 0#8])
      = .ok (.send [0xAA#8, 0x55#8] 1#32 false) ∧
    decodeRequest (.operation [0x37#8, 0#8, 0#8, 0#8, 100#8]) = .ok (.sleep 100) := by decide

/-! ## Register and bitfield model (vectors V1 to V17) -/

/-- V1. -/
theorem test_decode_datamodul :
    gives (exec (.decode 1#8 0x08#8) State.reset) (fun t => t.ret == some (.mapping
      [(.dataMode, .label .packet), (.modulationType, .label .ook), (.modulationShaping, .label .none)]))
      = true := by decide

/-- V3: unmapped values are results, and the shaping table follows the modulation type. -/
theorem test_decode_unrecognized :
    gives (exec (.decode 1#8 0x2B#8) State.reset) (fun t => t.ret == some (.mapping
      [(.dataMode, .unrecognized 1), (.modulationType, .label .ook), (.modulationShaping, .unrecognized 3)]))
      = true := by decide

/-- R19, R80 under a LAYOUT with a decode table of its own. -/
theorem test_decode_other_table :
    gives (exec (.decode 0#8 0x80#8) (State.resetWith (withFields 0
        [⟨.other 3, 7, 6, .fixed [(2, .other "two"), (3, .tx)]⟩, ⟨.mode, 1, 0, .number⟩])))
      (fun t => t.ret == some (.mapping [(.other 3, .label (.other "two")), (.mode, .number 0)])) = true := by decide

/-- V14b. -/
theorem test_field_value_mode :
    gives (exec (.fieldValue 0#8 3#8 0x0C#8) State.reset) (fun t => t.ret == some (.rawBits 3)) = true := by decide

/-- V14d. -/
theorem test_field_value_wrong_field :
    gives (exec (.fieldValue 8#8 3#8 0x00#8) State.reset) (fun t => t.ret == some (.fieldError 8#8 3#8)) = true := by
  decide

/-- V15b. -/
theorem test_field_insert_pa_level :
    gives (exec (.fieldInsert 7#8 [(12#8, 0#16), (13#8, 1#16), (14#8, 1#16), (15#8, 31#16)]) State.reset)
      (fun t => t.ret == some (.byte 0x7F#8)) = true := by decide

/-- V15d. -/
theorem test_field_insert_too_wide :
    gives (exec (.fieldInsert 8#8 [(17#8, 16#16)]) State.reset) (fun t => t.ret == some (.fieldError 8#8 17#8))
      = true := by decide

/-- V16b: unused bits do not survive the round trip. -/
theorem test_round_trip_unused_bits :
    encodeMapping (Params.p0.fieldsOf .datamodul) (decodeFields (Params.p0.fieldsOf .datamodul) 0x8C#8)
      = some (.byte 0x08#8) := by decide

/-- V40. -/
theorem test_encode :
    gives (exec .encode State.reset) (fun t => t.ret == some (.payload
      ([0x8E#8, 0x8E#8, 0x88#8, 0xEE#8, 0x88#8, 0x00#8, 0x00#8, 0x00#8, 0x00#8]
        ++ [0x8E#8, 0x8E#8, 0x88#8, 0xEE#8, 0x88#8, 0x00#8, 0x00#8, 0x00#8, 0x00#8]
        ++ [0x8E#8, 0x8E#8, 0x88#8, 0xEE#8, 0x88#8, 0x00#8, 0x00#8, 0x00#8, 0x00#8]
        ++ [0x8E#8, 0x8E#8, 0x88#8, 0xEE#8, 0x88#8, 0x00#8, 0x00#8, 0x00#8, 0x00#8])))
      = true := by decide

/-! ## Configuration sequencer (vectors V20 to V29) -/

/-- V20 to V20m: the divisor of a bit rate. -/
theorem test_brdiv :
    roundQuotient .halfEven 32000000 1400 = 0x5949 ∧ roundQuotient .halfEven 32000000 4800 = 0x1A0B ∧
    roundQuotient .halfEven 32000000 4096 = 7812 ∧ roundQuotient .halfUp 32000000 4096 = 7813 ∧
    roundQuotient .halfEven 32000000 12800000 = 2 ∧ roundQuotient .halfUp 32000000 12800000 = 3 ∧
    roundQuotient .halfEven 32000000 488 = 0x10026 ∧ roundQuotient .halfEven 32000000 64000000 = 0 := by decide

/-- V21, V21a, V21b. -/
theorem test_frf_word :
    frfWordOf .halfEven 433920000 32000000 = 0x6C7AE1 ∧ frfWordOf .halfEven 434000000 32000000 = 0x6C8000 ∧
    frfWordOf .halfEven 915000000 32000000 = 0xE4C000 := by decide

/-- V29: the 14 words of P0. -/
theorem test_cfg_table :
    (cfgWords Params.p0).map (fun w => (Params.p0.addrOf w.1, w.2)) =
      [(0x07#8, 0x6C#8), (0x08#8, 0x7A#8), (0x09#8, 0xE1#8), (0x02#8, 0x08#8), (0x37#8, 0x00#8), (0x38#8, 0x00#8),
       (0x3C#8, 0x8F#8), (0x2C#8, 0x00#8), (0x2D#8, 0x00#8), (0x2E#8, 0x00#8), (0x03#8, 0x59#8), (0x04#8, 0x49#8),
       (0x11#8, 0x7F#8), (0x13#8, 0x0F#8)] := by decide

/-- R65(d), R90: under the default LAYOUT no byte of CFGTABLE decodes to an unrecognized value. -/
theorem test_target_values_are_mapped :
    ((cfgWords Params.p0).all (fun w => (decodeFields (Params.p0.fieldsOf w.1) w.2).all (fun a =>
      match a.2 with
      | .unrecognized _ => false
      | .label _ => true
      | .number _ => true))) = true := by decide

/-- V29a: the first write fails. -/
theorem test_apply_first_write_fails :
    gives (exec .apply (scripted [bad])) (fun t =>
      t.ret == some (.applied (.err (.writeFailed .frfMsb))) && t.trace == [.wrreg 0x07#8 0x6C#8 .err]) = true := by
  decide

/-- V27: the bit-rate pair. -/
theorem test_cfg_bitrate :
    gives (exec .cfgBitrate (scripted [good 0#8, good 0#8])) (fun t =>
      t.trace == [.wrreg 0x03#8 0x59#8 .ok, .wrreg 0x04#8 0x49#8 .ok]) = true := by decide

/-- V28: the bytes of step 8. -/
theorem test_cfg_pa_ocp :
    gives (exec .cfgPaOcp (scripted [good 0#8, good 0#8])) (fun t =>
      t.trace == [.wrreg 0x11#8 0x7F#8 .ok, .wrreg 0x13#8 0x0F#8 .ok]) = true := by decide

/-- V28 with other parameters: PA_STAGE 0b010, OUTPUT_POWER 20 give 0x54. -/
theorem test_wr_pa_level :
    gives (exec (.wrPaLevel 0b010#3 20#5) (scripted [good 0#8])) (fun t =>
      t.trace == [.wrreg 0x11#8 0x54#8 .ok]) = true := by decide

/-- V26 with SYNC_SIZE_FIELD 7. -/
theorem test_wr_sync_config :
    gives (exec (.wrSyncConfig 7#3) (scripted [good 0#8])) (fun t =>
      t.trace == [.wrreg 0x2E#8 0x38#8 .ok]) = true := by decide

/-- R68: a word writes its own address and byte, also where ADDR has other addresses. -/
theorem test_word_keeps_its_address :
    gives (exec .wrDatamodul { scripted [good 0#8] with params := { Params.p0 with addr := Params.p0.addr.set 1 0x80#8 } })
      (fun t => t.trace == [.wrreg 0x02#8 0x08#8 .ok]) = true := by decide

/-- V25 with FIFO_THRESHOLD 127 and 0. -/
theorem test_wr_fifo_thresh :
    gives (exec (.wrFifoThresh 127#7) (scripted [good 0#8])) (fun t =>
      t.trace == [.wrreg 0x3C#8 0xFF#8 .ok]) = true ∧
    gives (exec (.wrFifoThresh 0#7) (scripted [good 0#8])) (fun t =>
      t.trace == [.wrreg 0x3C#8 0x80#8 .ok]) = true := by decide

/-! ## Register inspector (vectors V30 to V38) -/

/-- V30b: the limit is computed though protection is off, and the unused bits stay in the raw byte. -/
theorem test_inspect_ocp :
    gives (exec (.inspect [8#8]) (scripted [good 0xEF#8])) (fun t => t.report == [⟨.ocp, 0xEF#8,
      [⟨.field .ocpOn, .reading (.label .disabled), none⟩, ⟨.field .ocpTrim, .reading (.number 15), none⟩,
       ⟨.currentLimit, .number 120, some .milliamp⟩]⟩]) = true := by decide

/-- V36: a failed read ends the inspection. -/
theorem test_inspect_failed_read :
    gives (exec (.inspect [8#8, 3#8, 2#8, 1#8]) (scripted [good 0x08#8, good 0x59#8, bad])) (fun t =>
      t.report.map ReportEntry.register == [.datamodul, .bitrateMsb] &&
      t.inspectErr == some (.readFailed .bitrateLsb) &&
      t.trace == [.rdreg 0x02#8 (.ok 0x08#8), .rdreg 0x03#8 (.ok 0x59#8), .rdreg 0x04#8 .ioError]) = true := by
  decide

/-- V31, V31b: the effective bit rate, and the divisor 0. -/
theorem test_inspect_bit_rate :
    gives (exec (.inspect [2#8, 3#8]) (scripted [good 0x59#8, good 0x49#8])) (fun t =>
      t.report.map ReportEntry.attrs == [[⟨.field .bitRateMsb, .reading (.number 89), none⟩],
        [⟨.field .bitRateLsb, .reading (.number 73), none⟩,
         ⟨.effectiveBitRate, .quotient 32000000 22857, some .bps⟩]]) = true ∧
    gives (exec (.inspect [2#8, 3#8]) (scripted [good 0#8, good 0#8])) (fun t =>
      t.report.map ReportEntry.attrs == [[⟨.field .bitRateMsb, .reading (.number 0), none⟩],
        [⟨.field .bitRateLsb, .reading (.number 0), none⟩, ⟨.effectiveBitRate, .undefined, some .bps⟩]])
      = true := by decide

/-- R110: INSPECT takes a set, so a label the list repeats is read once. -/
theorem test_inspect_repeated_label :
    gives (exec (.inspect [8#8, 1#8, 8#8]) (scripted [good 0x08#8, good 0x0F#8])) (fun t =>
      t.trace == [.rdreg 0x02#8 (.ok 0x08#8), .rdreg 0x13#8 (.ok 0x0F#8)]) = true := by decide

/-- V33: the sync word, most significant register first. -/
theorem test_inspect_sync_word :
    gives (exec (.inspect [12#8, 13#8, 14#8, 15#8, 16#8, 17#8, 18#8, 19#8])
        (scripted [good 1#8, good 2#8, good 3#8, good 4#8, good 5#8, good 6#8, good 7#8, good 8#8])) (fun t =>
      t.report.getLast? == some ⟨.syncValue8, 8#8, [⟨.field .syncValue8, .reading (.number 8), none⟩,
        ⟨.syncWord, .number 0x0102030405060708, none⟩]⟩) = true := by decide

/-- V38: a label outside the model, before any read. -/
theorem test_inspect_unknown :
    gives (exec (.inspect [8#8, 0xFF#8]) (scripted [good 0#8])) (fun t =>
      t.ret == some (.unknownRegister 0xFF#8) && t.trace == []) = true := by decide

/-! ## Transactions and the loop (vectors V41 to V54) -/

/-- V41b: RUN outside Idle changes nothing. -/
theorem test_run_refused_in_ready :
    gives (step { inJob .ready 16 [] with port := some (.command 0x10#8) })
      (fun t => t == inJob .ready 16 []) = true := by decide +kernel

/-- V49. -/
theorem test_acquire_fails :
    gives (exec (.run false false) (scripted [bad])) (fun t => t.state == .aborted &&
      t.result == some (.err .deviceUnavailable) && t.trace == [.acquire .err] && !t.owned) = true := by decide

/-- V48: the mode wait times out; STEP stays at 1 and the device is released. -/
theorem test_wait_times_out :
    gives (step (inJob .configuring 1 [bad])) (fun t => t.state == .aborted && t.err == some .modeTimeout &&
      t.step == 1 && t.trace == [.waitrdy 1000 false, .release]) = true := by decide +kernel

/-- V46, P3: write 6 fails. -/
theorem test_write_fails :
    gives (step (inJob .configuring 8 [bad])) (fun t => t.result == some (.err (.writeFailed .fifoThresh)) &&
      t.step == 8 && t.trace == [.wrreg 0x3C#8 0x8F#8 .err, .release]) = true := by decide +kernel

/-- P1, events 20 and 21: a failed send is recorded and the loop goes on. -/
theorem test_send_fails :
    gives (step { inJob .sending 16 [bad] with k := 2#32 }) (fun t => t.state == .sending && t.k == 3#32 &&
      t.sendFail == [2#32] && t.sendCalls == 1 && t.elapsed == 100) = true := by decide +kernel

/-- P1, events 22 to 24: after the last send, a delay, the release, and Ok. -/
theorem test_last_iteration :
    gives (step { inJob .sending 16 [good 0#8] with k := 32#32, dry := true }) (fun t => t.state == .idle &&
      t.result == some .ok && t.trace == [.sleep 100, .release] && t.k == 32#32) = true := by decide +kernel

/-- V53: reset in Aborted. -/
theorem test_reset_in_aborted :
    gives (step { scripted [] with state := .aborted, port := some .reset })
      (fun t => t == { scripted [] with devEpoch := 1 }) = true := by
  decide +kernel

/-- R36: after reset nothing is known of the ideal device's registers. -/
theorem test_reset_forgets_device :
    gives (step { device [(0x13, 0x0F#8)] [] with port := some .reset }) (fun t => t.dev == [] && t.devEpoch == 1)
      = true := by decide +kernel

/-- R36: the same after ACQUIRE, where the environment so chooses (log entry 10). -/
theorem test_acquire_forgets_device :
    gives (exec .acquire (device [(0x13, 0x0F#8)] [good 1#8])) (fun t => t.dev == [] && t.devEpoch == 1 && t.owned)
      = true ∧
    gives (exec .acquire (device [(0x13, 0x0F#8)] [good 0#8])) (fun t => t.dev == [(0x13, 0x0F#8)] && t.owned)
      = true := by decide

/-- V50, V51. -/
theorem test_codes :
    [ErrorKind.none, .deviceUnavailable, .writeFailed, .modeTimeout, .readFailed, .sendFailed, .unknownRegister,
      .fieldError].map ErrorKind.errorCode = [0, 1, 2, 3, 4, 5, 6, 7] ∧
    State.exitStatus { scripted [] with result := some .ok } = 0 ∧
    State.exitStatus { scripted [] with result := some (.err .modeTimeout) } = 1 := by decide

/-- R142, R53: the ideal device returns its byte. -/
theorem test_rdreg_ideal :
    gives (exec (.rdreg 0x13#8) (device [(0x13, 0x0F#8)] [])) (fun t =>
      t.ret == some (.readAnswer (.ok 0x0F#8)) && t.trace == [.rdreg 0x13#8 (.ok 0x0F#8)]) = true := by decide

/-- R143, R53: a write is kept; the list stays sorted. -/
theorem test_wrreg_ideal :
    gives (exec (.wrreg 0x02#8 0x08#8) (device [(0x01, 0x04#8), (0x13, 0x0F#8)] [good 0#8])) (fun t =>
      t.dev == [(0x01, 0x04#8), (0x02, 0x08#8), (0x13, 0x0F#8)]) = true := by decide

/-- Bytes that are no operation are refused without effect (log entry 21). -/
theorem test_unknown_identifier :
    gives (step { scripted [] with port := some (.operation [0x05#8]) }) (fun t => t == scripted []) = true := by
  decide +kernel

/-! ## How a program comes to run (log entry 2) -/

theorem test_fetch_run :
    gives (step (State.withFetchWord (scripted [good 0#8]) 8 0x10)) (fun t =>
      t.state == .configuring && t.owned && t.trace == [.acquire .ok]) = true := by decide +kernel

theorem test_fetch_config_word :
    gives (step (State.withFetchWord (scripted [good 0#8]) 16 0x130F)) (fun t =>
      t.trace == [.wrreg 0x13#8 0x0F#8 .ok]) = true := by decide +kernel

/-! ## Witnesses: states and operands that meet the hypotheses of each statement -/

theorem test_p0_wf : Params.p0.wf = true := by decide +kernel

theorem test_witness_DecodeTablesAreInjective :
    ((Params.p0.fieldsOf .opmode).any (fun d => d.name == .mode && (d.table.rows none).isSome)) = true ∧
    ([some 0, some 1, some 3, none].all (fun v =>
      (Params.p0.fieldsOf .datamodul).any (fun d => d.name == .modulationShaping && (d.table.rows v).isSome))) = true := by
  decide

theorem test_witness_FieldInsertThenExtract :
    ((0 ≤ 7 ∧ 7 ≤ 7 ∧ 255 < 2 ^ (7 - 0 + 1)) ∧ (2 ≤ 4 ∧ 4 ≤ 7 ∧ 7 < 2 ^ (4 - 2 + 1)) ∧ (0 < 2 ∧ 4 < 5)) := by decide

theorem test_witness_DecodeReadsEveryField :
    State.reset.params.wf = true ∧ Label.ofCode? 0#8 = some .opmode ∧ Label.ofCode? 38#8 = some .aesKey16 ∧
    Label.ofCode? 39#8 = none := by decide +kernel

theorem test_witness_UnknownLabelIsReturned :
    Label.ofCode? 39#8 = none ∧ Label.ofCode? 255#8 = none ∧ ∀ x ∈ [8#8, 0#8], (Label.ofCode? x).isSome = true := by
  decide

theorem test_witness_FieldValueIsTheSlice :
    State.reset.params.wf = true ∧ Label.ofCode? 8#8 = some .ocp ∧
    (∃ d ∈ State.reset.params.fieldsOf .ocp, d.name.code = 17#8) ∧
    (∀ d ∈ State.reset.params.fieldsOf .ocp, d.name.code ≠ 3#8) := by decide +kernel

theorem test_witness_FieldInsertComposes :
    ((([(17#8, 15#16), (16#8, 1#16)] : List (Byte × BitVec 16)).map Prod.fst).Nodup) ∧
    (∀ w ∈ ([(17#8, 15#16), (16#8, 1#16)] : List (Byte × BitVec 16)),
      ∃ d ∈ Params.p0.fieldsOf .ocp, d.name.code = w.1 ∧ w.2.toNat < 2 ^ (d.high - d.low + 1)) := by
  have h : Params.p0.fieldsOf .ocp = [field .ocpOn 4 4, field .ocpTrim 3 0] := rfl
  simp [h, field, FieldName.code]

/-- A value too wide, and a name the register lacks. -/
theorem test_witness_FieldInsertComposes_error :
    (∀ d ∈ Params.p0.fieldsOf .ocp, d.name.code = 17#8 → 2 ^ (d.high - d.low + 1) ≤ (16#16).toNat) ∧
    (∀ d ∈ Params.p0.fieldsOf .ocp, d.name.code = 3#8 → 2 ^ (d.high - d.low + 1) ≤ (0#16).toNat) := by
  have h : Params.p0.fieldsOf .ocp = [field .ocpOn 4 4, field .ocpTrim 3 0] := rfl
  simp [h, field, FieldName.code]

theorem test_witness_RequestRoundTrip :
    (Instr.sleep (2 ^ 32 - 1)).wellFormed = true ∧ (Instr.inspect [8#8, 1#8, 8#8]).wellFormed = true ∧
    (Instr.fieldInsert 8#8 [(17#8, 0xFFFF#16)]).wellFormed = true ∧
    (Instr.send [0xAA#8] 0xFFFFFFFF#32 true).wellFormed = true := by decide

theorem test_witness_WideValuesSplitAndAssemble :
    0 < 2 ^ (8 * 0) ∧ 0x5949 < 2 ^ (8 * 2) ∧ 0xFFFF < 2 ^ (8 * 2) := by decide

theorem test_witness_StepRunsPortOperation :
    ({ scripted [] with port := some (.command 0x13#8) } : State).params.wf = true ∧
    ({ scripted [] with port := some (.command 0x13#8) } : State).port = some (.command 0x13#8) ∧
    decodeRequest (.command 0x13#8) = .ok (.run true true) ∧ decodeTableWord 8 0x30 = some .acquire := by
  decide +kernel

theorem test_witness_RefusedCommandChangesNothing :
    ({ inJob .sending 16 [] with port := some (.command 0x10#8) } : State).params.wf = true ∧
    ({ inJob .sending 16 [] with port := some (.command 0x10#8) } : State).port = some (.command 0x10#8) ∧
    ({ inJob .sending 16 [] with port := some (.command 0x10#8) } : State).state ≠ .idle ∧
    (0x0F#8).toNat < 0x10 ∧ 0x13 < (0x14#8).toNat ∧
    ({ scripted [] with port := some (.operation [0x32#8]) } : State).port = some (.operation [0x32#8]) ∧
    decodeRequest (.operation [0x32#8]) = .error .truncated := by decide +kernel

theorem test_witness_BlockResetValues :
    [JobState.idle, .aborted, .configuring, .ready, .sending].map (fun j =>
      let s : State := { scripted [] with state := j, port := some .reset }
      (s.port == some .reset, s.state))
    = [(true, .idle), (true, .aborted), (true, .configuring), (true, .ready), (true, .sending)] ∧
    (scripted []).params.wf = true := by decide +kernel

/-- One assignment for each way of being ill formed (V20j, V20m, V40c). -/
theorem test_witness_IllFormedParametersRefused :
    { Params.p0 with bitRateBps := 64000000 }.brdiv = 0 ∧ 0xFFFF < { Params.p0 with bitRateBps := 488 }.brdiv ∧
    (¬{ Params.p0 with addr := Vector.replicate 39 0#8 }.addr.toList.Nodup) ∧
    { Params.p0 with signalUnit := [] }.signalUnit = [] ∧ { Params.p0 with unitRepeat := 0 }.unitRepeat = 0 ∧
    { Params.p0 with requireAck := true }.requireAck = true ∧
    { Params.p0 with fxoscHz := 0 }.fxoscHz = 0 ∧ { Params.p0 with bitRateBps := 0 }.bitRateBps = 0 ∧
    { Params.p0 with carrierHz := 0 }.carrierHz = 0 ∧
    ({ Params.p0 with paStage := 0b001#3 }.paStage ≠ 0b010#3 ∧ { Params.p0 with paStage := 0b001#3 }.paStage ≠ 0b011#3) ∧
    (∃ d ∈ { Params.p0 with layout := Vector.replicate 39 [⟨.mode, 1, 2, .number⟩] }.fieldsOf .opmode,
      d.high < d.low ∨ 7 < d.high) ∧
    (¬({ Params.p0 with layout := Vector.replicate 39 [⟨.mode, 4, 2, .number⟩, ⟨.ocpOn, 2, 0, .number⟩] }.fieldsOf .opmode).Pairwise
      (fun d e : FieldDef => d.high < e.low ∨ e.high < d.low)) := by decide +kernel

theorem test_witness_RunStartsJob :
    (scripted [good 0#8]).state = .idle ∧ (scripted [good 0#8]).owned = false ∧
    (drawAt (scripted [good 0#8]) 0).ok = true ∧ (drawAt (scripted [bad]) 0).ok = false ∧
    (inJob .ready 16 []).state ≠ .idle := by decide

/-- The two answers, with and without a job, with each environment: WRREG, SETMODE, WAITRDY, ACQUIRE, RDREG. -/
theorem test_witness_transactions :
    (drawAt (device [] [good 0#8]) 0).ok = true ∧ (device [] [good 0#8]).env = .ideal ∧
    (drawAt (inJob .configuring 2 [bad]) 0).ok = false ∧ (inJob .configuring 2 [bad]).owned = true ∧
    (drawAt (scripted [bad]) 0).ok = false ∧ (scripted [bad]).owned = false ∧
    (scripted [bad]).env = .unconstrained ∧ (scripted [bad]).params.addrOf .ocp = 0x13#8 := by decide

/-- A failed action of a job at STEP 0, 2 and 15, and failed lone operations, the ideal device held. -/
theorem test_witness_FailedConfigurationIsIndeterminate :
    ([(0 : Fin 17), 2, 15].all (fun n =>
      let s : State := { device [] [bad] with owned := true, state := .configuring, step := n }
      s.owned && s.env == .ideal && s.port == none && s.state == .configuring && s.step == n && !(drawAt s 0).ok)) = true ∧
    wordOf .wrDatamodul = some (0x02#8, 0x08#8) ∧ ((stepWrites Params.p0 .cfgFreq).map List.length) = some 3 ∧
    FailsAt { device [] [good 0#8, good 0#8, bad] with owned := true } 2 ∧
    ({ device [] [good 0#8, good 0#8, bad] with owned := true } : State).params.wf = true := by decide +kernel

/-- The parameters, each of the eight steps, and both ends of a run of writes. -/
theorem test_witness_ConfigStepsWrite :
    (scripted []).params.wf = true ∧
    ([Instr.cfgFreq, .cfgDatamodul, .cfgPacket, .cfgPaylen, .cfgFifo, .cfgPreambleSync, .cfgBitrate,
      .cfgPaOcp].map (fun i => (stepWrites Params.p0 i).map List.length))
      = [some 3, some 1, some 1, some 1, some 1, some 3, some 2, some 2] ∧
    NextOk (scripted [good 0#8, good 0#8, good 0#8]) 3 ∧ FailsAt (scripted [good 0#8, good 0#8, bad]) 2 ∧
    FailsAt (device [] [good 0#8, bad]) 1 ∧ (device [] [good 0#8, bad]).owned = false ∧
    FailsAt (scripted [bad]) 0 := by decide +kernel

theorem test_witness_ConfigWordsWrite :
    ([Instr.wrFrfMsb 1#8, .wrFrfMid 2#8, .wrFrfLsb 3#8, .wrDatamodul, .wrPacketConfig1, .wrPayloadLength,
      .wrFifoThresh 127#7, .wrPreambleMsb, .wrPreambleLsb, .wrSyncConfig 7#3, .wrBitrateMsb 4#8, .wrBitrateLsb 5#8,
      .wrPaLevel 7#3 31#5, .wrOcp 15#4].map (fun i => (wordOf i).map (fun w => (w.1.toNat, w.2.toNat))))
      = [some (0x07, 1), some (0x08, 2), some (0x09, 3), some (0x02, 8), some (0x37, 0), some (0x38, 0),
         some (0x3C, 255), some (0x2C, 0), some (0x2D, 0), some (0x2E, 0x38), some (0x03, 4), some (0x04, 5),
         some (0x11, 0xFF), some (0x13, 15)] ∧
    (drawAt (scripted [good 0#8]) 0).ok = true ∧ (drawAt (scripted [bad]) 0).ok = false := by decide

theorem test_witness_ApplyWritesCfgTable :
    (scripted []).params.wf = true ∧ (cfgWords (scripted []).params)[13]? = some (.ocp, 0x0F#8) ∧
    NextOk (scripted (List.replicate 14 (good 0#8))) 14 ∧
    FailsAt (scripted (List.replicate 13 (good 0#8) ++ [bad])) 13 ∧ FailsAt (scripted [bad]) 0 := by decide +kernel

theorem test_witness_ReadBackAfterApply :
    (device [] (List.replicate 14 (good 0#8))).params.wf = true ∧
    (device [] (List.replicate 14 (good 0#8))).params.layout = defaultLayout ∧
    NextOk (device [] (List.replicate 14 (good 0#8))) 14 := by decide +kernel

theorem test_witness_BrdivIsNearest :
    0 < { Params.p0 with bitRateBps := 4096 }.bitRateBps ∧ 2 * (32000000 % 4096) = 4096 ∧
    { Params.p0 with roundTie := .halfUp }.roundTie = .halfUp ∧ Params.p0.roundTie = .halfEven := by decide

theorem test_witness_InspectReadsInAddressOrder :
    (device [] []).params.wf = true ∧ (device [] []).env = .ideal := by decide +kernel

theorem test_witness_InspectStopsAtFailedRead :
    (scripted []).params.wf = true ∧ (scripted []).env = .unconstrained ∧
    FailsAt (scripted [good 0x08#8, bad]) 1 ∧ FailsAt (scripted [bad]) 0 ∧
    NextOk (scripted [good 0x08#8, good 0x59#8]) 2 := by decide +kernel

theorem test_witness_CurrentLimitFormula :
    (device [(0x13, 0xEF#8)] []).params.layout = defaultLayout ∧ (device [(0x13, 0xEF#8)] []).env = .ideal ∧
    (device [(0x13, 0xEF#8)] []).devRead 0x13 = 0xEF#8 ∧ (scripted [good 0xEF#8]).env = .unconstrained ∧
    (drawAt (scripted [good 0xEF#8]) 0) = ⟨true, 0xEF#8⟩ ∧
    ([device [(0x02, 0x08#8), (0x13, 0xEF#8)] [], scripted [good 0x08#8, good 0xEF#8]].all (fun s =>
      gives (exec (.inspect ([Label.ocp, .datamodul].map (fun l => BitVec.ofNat 8 l.code.val))) s)
        (fun t => t.report.map ReportEntry.register == [.datamodul, .ocp]))) = true ∧
    NextOk (scripted [good 0x08#8, good 0xEF#8]) 2 := by decide +kernel

/-- The pair read, in either environment, and one register of it alone. -/
theorem test_witness_EffectiveBitRateAttribute :
    (device [] []).params.wf = true ∧
    ((device [] []).params.addrOf .bitrateMsb).toNat < ((device [] []).params.addrOf .bitrateLsb).toNat ∧
    ([device [(3, 0#8), (4, 0#8)] [], scripted [good 0#8, good 0#8]].all (fun s =>
      [[Label.bitrateMsb, .bitrateLsb], [.bitrateMsb], [.bitrateLsb]].all (fun ls =>
        gives (exec (.inspect (ls.map (fun l => BitVec.ofNat 8 l.code.val))) s)
          (fun t => t.report.map ReportEntry.register == ls)))) = true := by decide +kernel

theorem test_witness_WideValueAttributes :
    (syncGroup.Pairwise (fun l m => (Params.p0.addrOf l).toNat < (Params.p0.addrOf m).toNat)) ∧
    (aesGroup.Pairwise (fun l m => (Params.p0.addrOf l).toNat < (Params.p0.addrOf m).toNat)) ∧
    ([syncGroup, aesGroup].all (fun ls =>
      gives (exec (.inspect (ls.map (fun l => BitVec.ofNat 8 l.code.val))) (scripted (List.replicate 16 (good 7#8))))
        (fun t => t.report.map ReportEntry.register == ls))) = true := by decide +kernel

/-- Every STEP at which the actions change, with either answer; the parameters are P0 (`test_p0_wf`). -/
theorem test_witness_ConfiguringActions :
    (inJob .configuring 0 [bad]).params.wf = true ∧ ([(0 : Fin 17), 1, 2, 15, 16].all (fun n => [good 0#8, bad].all (fun a =>
      let s := inJob .configuring n [a]
      s.port == none && s.state == .configuring && s.owned && s.step == n && drawAt s 0 == a))) = true ∧
    (cfgWords Params.p0)[0]? = some (.frfMsb, 0x6C#8) ∧ (cfgWords Params.p0)[13]? = some (.ocp, 0x0F#8) := by
  decide +kernel

theorem test_witness_ReadyInspectsThenStartsLoop :
    ([true, false].all (fun diag => [0#32, 1#32].all (fun n =>
      let s : State := { inJob .ready 16 [] with diag := diag, params := { Params.p0 with repeatCount := n } }
      s.params.wf && s.port == none && s.state == .ready && s.diag == diag && s.params.repeatCount == n))) = true := by
  decide +kernel

/-- The first and the last iteration, and the loop of length 1. -/
theorem test_witness_SendingIteration :
    ([1#32, 32#32].all (fun k =>
      let s : State := { inJob .sending 16 [] with k := k }
      s.port == none && s.state == .sending && decide (1 ≤ s.k.toNat) &&
        decide (s.k.toNat ≤ s.params.repeatCount.toNat))) = true ∧
    { Params.p0 with repeatCount := 1#32 }.wf = true := by decide +kernel

theorem test_witness_LoopRunsToCompletion :
    ({ inJob .sending 16 [] with k := 31#32 } : State).params.wf = true ∧
    ({ inJob .sending 16 [] with k := 31#32 } : State).port = none ∧
    ({ inJob .sending 16 [] with k := 31#32 } : State).state = .sending ∧
    1 ≤ ({ inJob .sending 16 [] with k := 31#32 } : State).k.toNat ∧
    ({ inJob .sending 16 [] with k := 31#32 } : State).k.toNat ≤ Params.p0.repeatCount.toNat := by decide +kernel

theorem test_witness_EveryJobEnds :
    (State.withFetchWord (scripted []) 8 0x10).params.wf = true ∧
    (State.withFetchWord (scripted []) 8 0x10).port = some (.command 0x10#8) ∧
    (State.withFetchWord (scripted []) 8 0x10).state = .idle ∧
    (State.withFetchWord (scripted []) 8 0x10).owned = false ∧ 0x10 ≤ (0x10#8).toNat ∧ (0x10#8).toNat ≤ 0x13 := by
  decide +kernel

theorem test_witness_DryRunEquivalence :
    (scripted (List.replicate 17 (good 0#8))).params.wf = true ∧
    (scripted (List.replicate 17 (good 0#8))).state = .idle ∧
    (scripted (List.replicate 17 (good 0#8))).owned = false ∧
    NextOk (scripted (List.replicate 17 (good 0#8))) 17 := by decide +kernel

/-- A state with RUN at its port that meets the job invariant, and steps. -/
theorem test_witness_JobInvariantKept :
    JobInv { scripted [good 0#8] with port := some (.command 0x10#8) } ∧
    gives (step { scripted [good 0#8] with port := some (.command 0x10#8) }) (fun t => t.busy) = true := by
  refine ⟨?_, by decide +kernel⟩
  constructor <;> (try simp [scripted, State.resetWith, State.busy, failedSends])
  · exact test_p0_wf
  · exact fun r h => .inr ⟨0x10#8, (Option.some.inj h).symm⟩

/-- The same with block reset at the port, between jobs. -/
theorem test_witness_BlockNeverStops :
    JobInv { scripted [] with port := some .reset } ∧ ({ scripted [] with port := some .reset } : State).busy = false := by
  refine ⟨?_, by decide⟩
  constructor <;> (try simp [scripted, State.resetWith, State.busy, failedSends])
  · exact test_p0_wf
  · exact fun r h => .inl (Option.some.inj h).symm

theorem test_witness_AccountingKept :
    Accounting { scripted [] with port := some (.operation [0x37#8, 0#8, 0#8, 0#8, 5#8]) } ∧
    gives (step { scripted [] with port := some (.operation [0x37#8, 0#8, 0#8, 0#8, 5#8]) })
      (fun t => t.elapsed == 5) = true := by decide +kernel

theorem test_witness_DeviceFormKept :
    DeviceInv { device [(0x13, 0x0F#8)] [good 0#8] with port := some (.operation [0x33#8, 0x02#8, 0x08#8]) } ∧
    gives (step { device [(0x13, 0x0F#8)] [good 0#8] with port := some (.operation [0x33#8, 0x02#8, 0x08#8]) })
      (fun t => t.dev == [(0x02, 0x08#8), (0x13, 0x0F#8)]) = true := by decide +kernel

theorem test_witness_AbortedIsTerminal :
    ({ scripted [] with state := .aborted, port := some (.command 0x10#8) } : State).params.wf = true ∧
    HostPort { scripted [] with state := .aborted, port := some (.command 0x10#8) } ∧
    ({ scripted [] with state := .aborted, port := some (.command 0x10#8) } : State).port ≠ some .reset :=
  ⟨test_p0_wf, fun r h => .inr ⟨0x10#8, (Option.some.inj h).symm⟩, by simp⟩

/-- Sending grows in Sending, where the host port is empty. -/
theorem test_witness_SendOnlyWhileSending :
    HostPort { inJob .sending 16 [good 0#8] with k := 1#32 } ∧
    ({ inJob .sending 16 [good 0#8] with k := 1#32 } : State).busy = true ∧
    gives (step { inJob .sending 16 [good 0#8] with k := 1#32 }) (fun t => t.sendCalls == 1) = true :=
  ⟨fun r h => (by cases h), by decide, by decide +kernel⟩

/-- Every STEP at which the actions change, the ideal device held, either answer. -/
theorem test_witness_JobWritesReachDevice :
    ([(0 : Fin 17), 1, 2, 15, 16].all (fun n => [good 0#8, bad].all (fun a =>
      let s : State := { device [(0x02, 0xA5#8)] [a] with owned := true, state := .configuring, step := n }
      s.owned && s.env == .ideal && s.port == none && s.state == .configuring && s.step == n && drawAt s 0 == a))) = true ∧
    (device [] []).params.wf = true ∧ (cfgWords Params.p0)[0]? = some (.frfMsb, 0x6C#8) ∧
    (cfgWords Params.p0)[13]? = some (.ocp, 0x0F#8) := by decide +kernel

theorem test_witness_CfgWordsAreTheTable :
    Params.p0.wf = true ∧ Params.p0.layout = defaultLayout ∧ (expectedWrites Params.p0 .apply).isSome = true := by
  decide +kernel

/-- A well-formed LAYOUT other than the default one: OCP's two fields change places. -/
theorem test_witness_ConfigBytesHoldTheirFields :
    (withFields 8 [⟨.ocpTrim, 7, 4, .number⟩, ⟨.ocpOn, 0, 0, .number⟩]).wf = true ∧
    (Label.ocp, 0xF0#8) ∈ cfgWords (withFields 8 [⟨.ocpTrim, 7, 4, .number⟩, ⟨.ocpOn, 0, 0, .number⟩]) := by
  decide +kernel

/-- The steps of a job: started, ended by a failed ACQUIRE, by a failed wait, and well. -/
theorem test_witness_EveryJobReleasesOnce :
    JobInv { scripted [good 0#8] with port := some (.command 0x10#8) } ∧
    gives (step { scripted [good 0#8] with port := some (.command 0x10#8) }) (fun t => t.trace == [.acquire .ok]) = true ∧
    gives (step { scripted [bad] with port := some (.command 0x10#8) }) (fun t => t.trace == [.acquire .err]) = true ∧
    (let s : State := { scripted [bad] with
      state := .configuring, owned := true, step := 1, trace := [.acquire .ok, .setmode .standby .ok] }
     JobInv s ∧ gives (step s) (fun t => t.trace == s.trace ++ [.waitrdy 1000 false, .release]) = true) ∧
    (let s : State := { scripted [] with
      params := { Params.p0 with repeatCount := 0#32 }, state := .ready, owned := true, step := 16,
      trace := configTrace Params.p0 16 }
     JobInv s ∧ gives (step s) (fun t => t.trace == s.trace ++ [.release] && t.result == some .ok) = true) := by
  refine ⟨test_witness_JobInvariantKept.1, by decide +kernel, by decide +kernel, ⟨?_, by decide +kernel⟩,
    ?_, by decide +kernel⟩ <;> constructor <;> (try simp [scripted, State.resetWith, State.busy])
  all_goals first
    | exact test_p0_wf
    | (intro r h; cases h)
    | decide +kernel

/-- A live job whose second SEND failed meets the invariant, and its third, failing too, is added to SEND_FAIL. -/
theorem test_witness_JobInvariantKept_sending :
    let s : State := { scripted [bad] with
      state := .sending, owned := true, step := 16, k := 3#32, sendCalls := 2, sendFail := [2#32], elapsed := 200,
      trace := configTrace Params.p0 16 ++ [.send Params.p0.payload 1#32 false true, .sleep 100,
        .send Params.p0.payload 1#32 false false, .sleep 100] }
    JobInv s ∧ gives (step s) (fun t => t.sendFail == [2#32, 3#32] && t.k == 4#32) = true := by
  refine ⟨?_, by decide +kernel⟩
  constructor <;> (try simp [scripted, State.resetWith, State.busy])
  all_goals first
    | exact test_p0_wf
    | (intro r h; cases h)
    | decide +kernel

end Sys2Proof.Tests
end

section
/-!
PROOFS. What a well-formed parameter assignment is, check by check (spec/00_scope.md R7), and that no step is
taken under any other.
-/

namespace Sys2Proof

open Machine

/-! ### The checks of `Params.wf`, as propositions -/

/-- R7(c), R84: the four checks on the fields of one register. -/
theorem fieldsOk_iff (fields : List FieldDef) :
    fieldsOk fields = true ↔
      (∀ d ∈ fields, d.low ≤ d.high ∧ d.high ≤ 7) ∧
      fields.Pairwise (fun d e => d.high < e.low ∨ e.high < d.low) ∧
      (fields.map FieldDef.name).Nodup ∧
      ∀ d ∈ fields, d.table.ok = true ∧ d.table.chooserOk fields = true := by
  simp only [fieldsOk, Bool.and_eq_true, List.all_eq_true, decide_eq_true_eq, and_assoc]

/-- R7(a), R100: the divisor exists and fits its pair of registers. -/
theorem brdivFits_iff (p : Params) :
    p.brdivFits = true ↔ 0 < p.fxoscHz ∧ 0 < p.bitRateBps ∧ 1 ≤ p.brdiv ∧ p.brdiv ≤ 0xFFFF := by
  simp only [Params.brdivFits, Bool.and_eq_true, decide_eq_true_eq, and_assoc]

/-- Every place of a map over the modelled registers belongs to a label (R7(f)). -/
theorem label_code_surjective : Function.Surjective Label.code :=
  have numbered : ∀ i : Fin 39, (Label.all[i]'i.isLt).code = i := by decide
  fun i => ⟨_, numbered i⟩

/-- A check of all of LAYOUT is a check of each register's fields. -/
theorem layout_all_iff (p : Params) (check : List FieldDef → Bool) :
    p.layout.toList.all check = true ↔ ∀ l, check (p.fieldsOf l) = true := by
  have places : p.layout.toList.all check = true ↔ ∀ i : Fin 39, check p.layout[i] = true := by
    simp [Vector.all_eq_true, Fin.forall_iff]
  exact places.trans label_code_surjective.forall

/-- R7, R99: the checks of `Params.wf` under names of their own. -/
structure Params.WellFormed (p : Params) : Prop where
  fxosc_pos : 0 < p.fxoscHz
  bitRate_pos : 0 < p.bitRateBps
  brdiv_pos : 1 ≤ p.brdiv
  brdiv_le : p.brdiv ≤ 0xFFFF
  addr_nodup : p.addr.toList.Nodup
  fields_ok : ∀ l, fieldsOk (p.fieldsOf l) = true
  target_fits : p.targetFits = true
  signalUnit_ne_nil : p.signalUnit ≠ []
  unitRepeat_pos : 0 < p.unitRepeat
  requireAck_false : p.requireAck = false
  carrier_pos : 0 < p.carrierHz
  paStage_one : p.paStage = 0b010#3 ∨ p.paStage = 0b011#3

/-- `Params.wf` asks these checks and no others. -/
theorem wf_iff_wellFormed (p : Params) : p.wf = true ↔ p.WellFormed := by
  simp only [Params.wf, Bool.and_eq_true, brdivFits_iff, layout_all_iff, decide_eq_true_eq, Bool.or_eq_true,
    Bool.not_eq_true', List.isEmpty_eq_false_iff, beq_iff_eq]
  constructor
  · rintro ⟨⟨⟨⟨⟨⟨⟨⟨⟨hfx, hbr, hlo, hhi⟩, ha⟩, hf⟩, ht⟩, hs⟩, hu⟩, hr⟩, hc⟩, hp⟩
    exact ⟨hfx, hbr, hlo, hhi, ha, hf, ht, hs, hu, hr, hc, hp⟩
  · rintro ⟨hfx, hbr, hlo, hhi, ha, hf, ht, hs, hu, hr, hc, hp⟩
    exact ⟨⟨⟨⟨⟨⟨⟨⟨⟨hfx, hbr, hlo, hhi⟩, ha⟩, hf⟩, ht⟩, hs⟩, hu⟩, hr⟩, hc⟩, hp⟩

/-- R7(c): each field of a register lies in its byte, from its high bit down to its low one. -/
theorem Params.WellFormed.field_range {p : Params} (w : p.WellFormed) {l : Label} {d : FieldDef}
    (hd : d ∈ p.fieldsOf l) : d.low ≤ d.high ∧ d.high ≤ 7 := by
  obtain ⟨hrange, -, -, -⟩ := (fieldsOk_iff _).mp (w.fields_ok l)
  exact hrange d hd

/-- R7(c): the fields of a register do not overlap. -/
theorem Params.WellFormed.fields_disjoint {p : Params} (w : p.WellFormed) (l : Label) :
    (p.fieldsOf l).Pairwise (fun d e => d.high < e.low ∨ e.high < d.low) := by
  obtain ⟨-, hdisjoint, -, -⟩ := (fieldsOk_iff _).mp (w.fields_ok l)
  exact hdisjoint

/-! ### No step under ill-formed parameters -/

/-- R7, U10: `step` looks at the parameters before anything else. -/
theorem step_of_not_wellFormed {s : State} (h : ¬s.params.WellFormed) :
    step s = .refused .illFormedParameters :=
  if_neg (mt (wf_iff_wellFormed s.params).mp h)

/-- Settles O18: each way of being ill formed contradicts one of the named checks. -/
theorem illFormedParametersRefused : Obligations.IllFormedParametersRefused := by
  intro s hill
  refine step_of_not_wellFormed fun w => ?_
  rcases hill with hzero | hbig | haddr | hfxosc | hrate | hcarrier | hunit | hrepeat | hack | hstage |
    ⟨l, d, hd, hrange⟩ | ⟨l, hoverlap⟩
  · exact absurd w.brdiv_pos (by omega)
  · exact absurd w.brdiv_le (by omega)
  · exact haddr w.addr_nodup
  · exact w.fxosc_pos.ne' hfxosc
  · exact w.bitRate_pos.ne' hrate
  · exact w.carrier_pos.ne' hcarrier
  · exact w.signalUnit_ne_nil hunit
  · exact w.unitRepeat_pos.ne' hrepeat
  · exact Bool.false_ne_true (w.requireAck_false.symm.trans hack)
  · exact w.paStage_one.elim hstage.1 hstage.2
  · have := w.field_range hd
    omega
  · exact hoverlap (w.fields_disjoint l)

end Sys2Proof
end

section
/-!
PROOFS. What a step can do, said once: the request or the action it takes (spec/45_transmission_loop.md R162), and that
whatever it does, but for RUN's clearing and block reset, it only goes on with the job in hand. Accounting
(spec/10_state.md R16, R17), the constancy of the parameters (R35) and the finality of Aborted (R12) follow.
-/

namespace Sys2Proof

open Machine Safety Laws

/-! ### Which request or action a step takes (R162) -/

/-- Emptying an empty port changes nothing. -/
theorem emptyPort_eq {s : State} (h : s.port = none) : { s with port := none } = s := by
  rw [← h]

/-- A step acts on the request at the port, the port emptied, or takes the action of the control point. -/
theorem step_eq_next_iff {s t : State} :
    step s = .next t ↔ s.params.wf = true ∧
      (s.port = none ∧ s.action = .next t ∨
        ∃ r, s.port = some r ∧ State.stepRequest { s with port := none } r = .next t) := by
  unfold step
  cases s.params.wf <;> cases s.port <;> simp

/-- R190: block reset at the port is acted on between jobs only. -/
theorem stepRequest_reset {s t : State} (h : s.stepRequest .reset = .next t) : s.busy = false ∧ t = s.blockReset := by
  rw [show s.stepRequest .reset = s.resetRequest from rfl, State.resetRequest] at h
  split at h
  · cases h
  · next hb => exact ⟨Bool.eq_false_iff.mpr hb, (Host.Outcome.next.inj h).symm⟩

/-- What a request can lead to: block reset between jobs, an operation, or nothing. -/
theorem stepRequest_cases {s t : State} {r : Request} (h : s.stepRequest r = .next t) :
    s.busy = false ∧ t = s.blockReset ∨ (∃ i, exec i s = .next t) ∨ t = s := by
  by_cases hr : r = .reset
  · exact .inl (stepRequest_reset (hr ▸ h))
  · rw [State.stepRequest, if_neg hr] at h
    split at h
    · next i _ => exact .inr (.inl ⟨i, h⟩)
    · exact .inr (.inr (Host.Outcome.next.inj h).symm)

/-- What the control point can lead to: nothing in Idle and Aborted, else the action of its state (R11). -/
theorem action_cases {s t : State} (h : s.action = .next t) :
    (s.state = .idle ∨ s.state = .aborted) ∧ t = s ∨
    s.state = .configuring ∧ t = s.configAction ∨
    s.state = .ready ∧ t = s.readyAction ∨
    s.state = .sending ∧ (1 ≤ s.k.toNat ∧ s.k.toNat ≤ s.params.repeatCount.toNat) ∧ t = s.sendAction := by
  unfold State.action at h
  cases hs : s.state <;> simp only [hs] at h
  case sending =>
    split at h
    · next hk => cases h; exact .inr (.inr (.inr ⟨rfl, hk, rfl⟩))
    · cases h
  all_goals cases h; simp

/-- R148: RUN clears the job's registers and starts a job in Idle, and does nothing elsewhere. -/
theorem execRun_eq (diag dry : Bool) (s : State) :
    execRun diag dry s = .next (if s.state = .idle then (s.clearJob diag dry).startJob else s) := rfl

/-- R65(e), R148: a command word starts a job in Idle, or does nothing. -/
theorem stepRequest_command (s : State) (w : Byte) :
    s.state = .idle ∧ (∃ diag dry, s.stepRequest (.command w) = .next (s.clearJob diag dry).startJob) ∨
    s.stepRequest (.command w) = .next s := by
  by_cases hw : w.extractLsb' 2 6 = 0b000100#6
  · have hdecode : decodeRequest (.command w) = .ok (.run (w.getLsbD 1) (w.getLsbD 0)) := if_pos hw
    by_cases hs : s.state = .idle
    · exact .inl ⟨hs, w.getLsbD 1, w.getLsbD 0, by simp [State.stepRequest, hdecode, exec, execRun_eq, hs]⟩
    · exact .inr (by simp [State.stepRequest, hdecode, exec, execRun_eq, hs])
  · have hdecode : decodeRequest (.command w) = .error (.refusedCommand w) := if_neg hw
    exact .inr (by simp [State.stepRequest, hdecode, State.refuseRequest])

/-! ### Going on with the job in hand -/

/-- `t` goes on from `s`: it adds events to TRACE, which SEND_CALLS and ELAPSED count (R16, R17), and keeps what no
operation writes: the parameters, the environment's model and the port (R35, R49). -/
structure Continues (s t : State) : Prop where
  params : t.params = s.params
  env : t.env = s.env
  port : t.port = s.port
  counted : ∃ events, t.trace = s.trace ++ events ∧ t.sendCalls = s.sendCalls + events.countP isSend ∧
    t.elapsed = s.elapsed + (events.map sleepTicks).sum

/-- An update outside these registers adds no event. -/
theorem Continues.of_untraced {s t : State} (hp : t.params = s.params) (he : t.env = s.env) (hport : t.port = s.port)
    (ht : t.trace = s.trace) (hc : t.sendCalls = s.sendCalls) (hd : t.elapsed = s.elapsed) : Continues s t :=
  ⟨hp, he, hport, [], by simp [ht], by simp [hc], by simp [hd]⟩

theorem Continues.refl (s : State) : Continues s s :=
  .of_untraced rfl rfl rfl rfl rfl rfl

theorem Continues.trans {s t u : State} (h : Continues s t) (h' : Continues t u) : Continues s u := by
  obtain ⟨es, ht, hc, hd⟩ := h.counted
  obtain ⟨es', ht', hc', hd'⟩ := h'.counted
  exact ⟨h'.params.trans h.params, h'.env.trans h.env, h'.port.trans h.port, es ++ es', by simp [ht', ht],
    by simp [hc', hc, Nat.add_assoc], by simp [hd', hd, Nat.add_assoc]⟩

/-- Whichever of two branches is taken. -/
theorem Continues.ite {s t u : State} {c : Prop} [Decidable c] (ht : Continues s t) (hu : Continues s u) :
    Continues s (if c then t else u) := by
  split <;> assumption

/-! Each transaction adds its one event (R140 to R147). -/

theorem acquireTxn_continues (s : State) : Continues s s.acquireTxn :=
  ⟨rfl, rfl, rfl, [.acquire s.nextAnswer], rfl, rfl, rfl⟩
theorem releaseTxn_continues (s : State) : Continues s s.releaseTxn :=
  ⟨rfl, rfl, rfl, [.release], rfl, rfl, rfl⟩
theorem rdregTxn_continues (s : State) (a : Byte) : Continues s (s.rdregTxn a) :=
  ⟨rfl, rfl, rfl, [.rdreg a (s.readAnswer a)], rfl, rfl, rfl⟩
theorem wrregTxn_continues (s : State) (a v : Byte) : Continues s (s.wrregTxn a v) :=
  ⟨rfl, rfl, rfl, [.wrreg a v s.nextAnswer], rfl, rfl, rfl⟩
theorem setmodeTxn_continues (s : State) (m : Mode) : Continues s (s.setmodeTxn m) :=
  ⟨rfl, rfl, rfl, [.setmode m s.nextAnswer], rfl, rfl, rfl⟩
theorem waitrdyTxn_continues (s : State) (d : Ticks) : Continues s (s.waitrdyTxn d) :=
  ⟨rfl, rfl, rfl, [.waitrdy d s.nextDraw.ok], rfl, rfl, rfl⟩
theorem sendTxn_continues (s : State) (payload : List Byte) (attempts : Count) (ack : Bool) :
    Continues s (s.sendTxn payload attempts ack) :=
  ⟨rfl, rfl, rfl, [.send payload attempts ack s.nextDraw.ok], rfl, rfl, rfl⟩
theorem sleepTxn_continues (s : State) (d : Ticks) : Continues s (s.sleepTxn d) :=
  ⟨rfl, rfl, rfl, [.sleep d], rfl, rfl, by simp [sleepTicks]⟩

/-- The abort path adds at most a RELEASE (R157). -/
theorem abort_continues (s : State) (e : FatalError) : Continues s (s.abort e) :=
  ⟨abort_params s e, abort_env s e, abort_port s e, releaseEvents s, abort_trace s e,
    by cases h : s.owned <;> simp [releaseEvents, h, isSend],
    by cases h : s.owned <;> simp [releaseEvents, h, sleepTicks]⟩

/-- The finish path adds a RELEASE (R156). -/
theorem finish_continues (s : State) : Continues s s.finish :=
  (releaseTxn_continues s).trans (.of_untraced rfl rfl rfl rfl rfl rfl)

/-! Transactions with what their failure raises (R9, R157). -/

theorem acquire_continues (s : State) : Continues s s.acquire :=
  (acquireTxn_continues s).ite ((acquireTxn_continues s).trans (abort_continues _ _))

theorem setMode_continues (s : State) (m : Mode) : Continues s (s.setMode m) :=
  (setmodeTxn_continues s m).ite ((setmodeTxn_continues s m).trans (abort_continues _ _))

theorem waitReady_continues (s : State) (d : Ticks) : Continues s (s.waitReady d) :=
  (waitrdyTxn_continues s d).ite ((waitrdyTxn_continues s d).trans (abort_continues _ _))

theorem memWrite_continues (s : State) (l : Label) (a v : Byte) : Continues s (s.memWrite l a v) :=
  (wrregTxn_continues s a v).ite ((wrregTxn_continues s a v).trans (abort_continues _ _))

/-! Runs of writes (R91) and of reads (R110). -/

theorem writeEntries_continues (es : List CfgEntry) (s : State) : Continues s (State.writeEntries es s).2 := by
  induction es generalizing s with
  | nil => exact .refl s
  | cons e es ih =>
    simp only [State.writeEntries]
    split
    · exact .refl s
    · split
      · exact (wrregTxn_continues s _ _).trans (ih _)
      · exact wrregTxn_continues s _ _

theorem inspectLoop_continues (ls : List Label) (seen : List (Label × Byte)) (s : State) :
    Continues s (State.inspectLoop ls seen s) := by
  induction ls generalizing seen s with
  | nil => exact .refl s
  | cons l ls ih =>
    have hread := rdregTxn_continues s (s.params.addrOf l)
    simp only [State.inspectLoop]
    split
    · exact hread.trans (.of_untraced rfl rfl rfl rfl rfl rfl)
    · refine .trans ?_ (ih _ _)
      exact hread.trans (.of_untraced rfl rfl rfl rfl rfl rfl)

theorem inspectLabels_continues (s : State) (ls : List Label) : Continues s (s.inspectLabels ls) := by
  refine .trans ?_ (inspectLoop_continues _ _ _)
  exact .of_untraced rfl rfl rfl rfl rfl rfl

theorem Continues.setRet {s t : State} (h : Continues s t) (r : Option Return) : Continues s { t with ret := r } :=
  h.trans (.of_untraced rfl rfl rfl rfl rfl rfl)

/-- A run of writes with what its failure raises (R102, R177). -/
theorem runEntries_continues (s : State) (es : List CfgEntry) : Continues s (s.runEntries es) := by
  have h := writeEntries_continues es s
  unfold State.runEntries
  split <;> (rename_i heq; rw [heq] at h)
  · exact h
  · exact h.trans (abort_continues _ _)
  · exact h.setRet _

/-- APPLY (R91, R102). -/
theorem execApply_continues {s t : State} (h : execApply s = .next t) : Continues s t := by
  have hw := writeEntries_continues s.params.cfgTable s
  obtain rfl := Host.Outcome.next.inj h
  split <;> (rename_i heq; rw [heq] at hw)
  · exact hw.setRet _
  · exact (hw.trans (abort_continues _ _)).setRet _
  · exact hw.setRet _

/-- INSPECT (R110, R176). -/
theorem execInspect_continues {s t : State} {labels : List Byte} (h : execInspect labels s = .next t) :
    Continues s t := by
  obtain rfl := Host.Outcome.next.inj h
  split
  · exact (Continues.refl s).setRet _
  · exact (inspectLabels_continues s _).setRet _

/-- An accepted RUN goes on from the cleared registers (R148, R149). -/
theorem startJob_continues (s : State) : Continues s s.startJob := by
  refine .ite ?_ (acquire_continues s)
  exact (acquire_continues s).trans (.of_untraced rfl rfl rfl rfl rfl rfl)

/-- Every operation goes on with the job in hand, but for RUN, which may clear it first (R148). -/
theorem exec_continues {s t : State} {i : Instr} (h : exec i s = .next t) :
    Continues s t ∨ ∃ diag dry, Continues (s.clearJob diag dry) t := by
  cases i
  case run diag dry =>
    obtain rfl := Host.Outcome.next.inj h
    split
    · exact .inr ⟨diag, dry, startJob_continues _⟩
    · exact .inl (.refl s)
  case apply => exact .inl (execApply_continues h)
  case inspect labels => exact .inl (execInspect_continues h)
  all_goals obtain rfl := Host.Outcome.next.inj h; refine .inl ?_
  case decode | fieldValue | fieldInsert | encode => exact (Continues.refl s).setRet _
  case cfgFreq | cfgDatamodul | cfgPacket | cfgPaylen | cfgFifo | cfgPreambleSync | cfgBitrate | cfgPaOcp =>
    exact runEntries_continues s _
  case acquire => exact acquire_continues s
  case release => exact releaseTxn_continues s
  case rdreg a => exact (rdregTxn_continues s a).setRet _
  case setmode m => exact setMode_continues s m
  case waitrdy d => exact waitReady_continues s d
  case send payload attempts ack => exact (sendTxn_continues s payload attempts ack).setRet _
  case sleep d => exact sleepTxn_continues s d
  -- WRREG, and the 14 configuration words, each a WRREG of its own address and byte (R68)
  all_goals exact memWrite_continues s _ _ _

/-! The actions of a job (R150 to R156). -/

theorem advanceIf_continues (s : State) (completed : Bool) : Continues s (s.advanceIf completed) :=
  .ite (.of_untraced rfl rfl rfl rfl rfl rfl) (.refl s)

theorem configAction_continues (s : State) : Continues s s.configAction := by
  unfold State.configAction
  split
  · exact (setMode_continues s _).trans (advanceIf_continues _ _)
  · split
    · exact (waitReady_continues s _).trans (advanceIf_continues _ _)
    · split
      · exact (runEntries_continues s _).trans (advanceIf_continues _ _)
      · exact .of_untraced rfl rfl rfl rfl rfl rfl

theorem readyInspect_continues (s : State) : Continues s s.readyInspect :=
  (inspectLabels_continues s _).ite (.refl s)

theorem readyAction_continues (s : State) : Continues s s.readyAction :=
  .ite ((readyInspect_continues s).trans (finish_continues _))
    ((readyInspect_continues s).trans (.of_untraced rfl rfl rfl rfl rfl rfl))

theorem noteSend_continues (s : State) (sent : Bool) : Continues s (s.noteSend sent) :=
  .ite (.refl s) (.of_untraced rfl rfl rfl rfl rfl rfl)

theorem iterationSend_continues (s : State) : Continues s s.iterationSend :=
  .ite (.refl s) ((sendTxn_continues s _ _ _).trans (noteSend_continues _ _))

theorem iterationSleep_continues (s : State) : Continues s s.iterationSleep :=
  (sleepTxn_continues s _).ite (.refl s)

theorem sendAction_continues (s : State) : Continues s s.sendAction :=
  have h := (iterationSend_continues s).trans (iterationSleep_continues _)
  .ite (h.trans (.of_untraced rfl rfl rfl rfl rfl rfl)) (h.trans (finish_continues _))

/-- The action of a control point goes on with the job in hand (R11). -/
theorem action_continues {s t : State} (h : s.action = .next t) : Continues s t := by
  rcases action_cases h with ⟨-, rfl⟩ | ⟨-, rfl⟩ | ⟨-, rfl⟩ | ⟨-, -, rfl⟩
  · exact .refl t
  · exact configAction_continues s
  · exact readyAction_continues s
  · exact sendAction_continues s

/-- Every step goes on with the job in hand, starts one on cleared registers, or is block reset; the port is emptied
first. -/
theorem step_cases {s t : State} (h : step s = .next t) :
    Continues { s with port := none } t ∨
    (∃ diag dry, Continues (State.clearJob { s with port := none } diag dry) t) ∨
    t = State.blockReset { s with port := none } := by
  obtain ⟨-, ⟨hport, hact⟩ | ⟨r, -, hreq⟩⟩ := step_eq_next_iff.mp h
  · exact .inl (by rw [emptyPort_eq hport]; exact action_continues hact)
  · rcases stepRequest_cases hreq with ⟨-, ht⟩ | ⟨i, hi⟩ | rfl
    · exact .inr (.inr ht)
    · exact (exec_continues hi).imp_right .inl
    · exact .inl (.refl _)

/-! ### The obligations -/

/-- Going on keeps SEND_CALLS and ELAPSED in agreement with TRACE. -/
theorem Continues.accounting {s t : State} (h : Continues s t) (hs : Accounting s) : Accounting t := by
  obtain ⟨es, ht, hc, hd⟩ := h.counted
  exact ⟨by rw [hc, hs.1, ht, List.countP_append], by rw [hd, hs.2, ht, List.map_append, List.sum_append]⟩

/-- Settles O49: a step goes on from registers that agree, from cleared ones, or from none. -/
theorem accountingKept : Obligations.AccountingKept := by
  intro s t hs hstep
  rcases step_cases hstep with h | ⟨diag, dry, h⟩ | rfl
  · exact h.accounting hs
  · exact h.accounting ⟨rfl, rfl⟩
  · exact ⟨rfl, rfl⟩

/-- Settles O51: neither going on, nor RUN's clearing, nor block reset writes them. -/
theorem parametersNeverChange : Obligations.ParametersNeverChange := by
  intro s t hstep
  rcases step_cases hstep with h | ⟨diag, dry, h⟩ | rfl
  · exact ⟨h.params, h.env, h.port⟩
  · exact ⟨h.params, h.env, h.port⟩
  · exact ⟨rfl, rfl, rfl⟩

/-- Settles O52: in Aborted the control point names no action, and the host's command word is refused. -/
theorem abortedIsTerminal : Obligations.AbortedIsTerminal := by
  intro s hwf hstate hhost hreset
  rw [step_eq_next_iff]
  refine ⟨hwf, ?_⟩
  cases hport : s.port with
  | none =>
    exact .inl ⟨rfl, by rw [emptyPort_eq hport, State.action, hstate]⟩
  | some r =>
    obtain rfl | ⟨w, rfl⟩ := hhost r hport
    · exact absurd hport hreset
    · rcases stepRequest_command { s with port := none } w with ⟨hidle, -⟩ | hrefused
      · exact absurd (hidle.symm.trans hstate) (by decide)
      · exact .inr ⟨_, rfl, hrefused⟩

/-- Settles O17: R36's values, register by register; no cell of the device is known. -/
theorem resetStateValues : Obligations.ResetStateValues :=
  ⟨rfl, fun _ => ⟨rfl, rfl, rfl, rfl, rfl, rfl, rfl, rfl, rfl, rfl, rfl, rfl, rfl, rfl, rfl, fun _ => rfl⟩⟩

end Sys2Proof
end

section
/-!
PROOFS. The job invariant (spec/10_state.md R11 to R17, spec/45_transmission_loop.md R159, R161): the events a job
adds to TRACE, one lemma per control point that says when the invariant holds there, and the invariant kept by each
action.
-/

namespace Sys2Proof

open Machine Safety Laws

/-! ### Events other than SEND (R16, R161) -/

/-- Without a SEND there is no failed one. -/
theorem failedSends_of_no_send {es : List Event} (n : Nat) (h : ∀ e ∈ es, isSend e = false) :
    failedSends n es = [] := by
  induction es with
  | nil => rfl
  | cons e es ih =>
    obtain ⟨he, hes⟩ := List.forall_mem_cons.mp h
    cases e with
    | send => cases he
    | _ => exact ih hes

/-- Only a SEND has an answer that `unanswered` changes. -/
theorem map_unanswered_of_no_send {es : List Event} (h : ∀ e ∈ es, isSend e = false) : es.map unanswered = es := by
  refine (List.map_congr_left fun e he => ?_).trans (List.map_id es)
  cases e with
  | send => cases h _ he
  | _ => rfl

/-- `unanswered` makes no SEND and removes none. -/
theorem countP_isSend_map_unanswered (es : List Event) : (es.map unanswered).countP isSend = es.countP isSend := by
  rw [List.countP_map]
  exact List.countP_congr fun e _ => by cases e <;> rfl

theorem countP_isSend_of_no_send {es : List Event} (h : ∀ e ∈ es, isSend e = false) : es.countP isSend = 0 :=
  List.countP_eq_zero.mpr fun e he => Bool.eq_false_iff.mp (h e he)

theorem isSend_of_isRead {e : Event} (h : isRead e = true) : isSend e = false := by
  cases e with
  | rdreg => rfl
  | _ => cases h

/-- The reads of an inspection hold no SEND (R153). -/
theorem no_send_of_reads {reads : List Event} (h : reads.all isRead = true) : ∀ e ∈ reads, isSend e = false :=
  fun e he => isSend_of_isRead (List.all_eq_true.mp h e he)

/-! ### The configuration's events (R101, R161) -/

/-- R83, R177: under well-formed parameters every entry of CFGTABLE has a byte, and `cfgWords` is CFGTABLE. -/
theorem cfgTable_eq_map_cfgWords {p : Params} (h : p.wf = true) :
    p.cfgTable = (cfgWords p).map fun w => ⟨w.1, .byte w.2⟩ := by
  have hfits := List.all_eq_true.mp ((wf_iff_wellFormed p).mp h).target_fits
  rw [cfgWords, List.map_filterMap]
  refine ((List.filterMap_congr fun e he => ?_).trans List.filterMap_some).symm
  have := hfits e he
  obtain ⟨l, b | c⟩ := e
  · rfl
  · cases this

theorem cfgWords_length {p : Params} (h : p.wf = true) : (cfgWords p).length = 14 := by
  have hlen : p.cfgTable.length = 14 := rfl
  rwa [cfgTable_eq_map_cfgWords h, List.length_map] at hlen

theorem configTrace_zero (p : Params) : configTrace p 0 = [.acquire .ok] := rfl

theorem configTrace_one (p : Params) : configTrace p 1 = configTrace p 0 ++ [.setmode .standby .ok] := rfl

theorem configTrace_two (p : Params) : configTrace p 2 = configTrace p 1 ++ [.waitrdy p.maxWait true] := rfl

/-- R152: the write at STEP = i + 2 is that of entry i. -/
theorem configTrace_write {p : Params} {i : Nat} {w : Label × Byte} (h : (cfgWords p)[i]? = some w) :
    configTrace p (i + 3) = configTrace p (i + 2) ++ [.wrreg (p.addrOf w.1) w.2 .ok] := by
  simp [configTrace, writeEvents, List.take_add_one, h]

/-- Configuring sends nothing (R161). -/
theorem configTrace_no_send (p : Params) (n : Nat) : ∀ e ∈ configTrace p n, isSend e = false := by
  intro e he
  have := List.mem_of_mem_take he
  simp only [writeEvents, List.cons_append, List.nil_append, List.mem_cons, List.mem_map] at this
  rcases this with rfl | rfl | rfl | ⟨w, -, rfl⟩ <;> rfl

/-- A failed action of Configuring is not a SEND. -/
theorem failedAction_not_send {p : Params} {n : Nat} {e : FatalError} {event : Event}
    (h : failedAction p n = some (e, event)) : isSend event = false := by
  match n with
  | 0 => cases h; rfl
  | 1 => cases h; rfl
  | i + 2 =>
    obtain ⟨w, -, hw⟩ := Option.map_eq_some_iff.mp h
    cases hw
    rfl

/-! ### The iterations' events (R155) -/

/-- The SEND of the next iteration, none in a dry run (R155). -/
def sendEvents (s : State) : List Event :=
  if s.dry then [] else [.send s.params.payload s.params.attemptsPerSend false s.nextDraw.ok]

/-- The SLEEP of iteration `k` (R155). -/
def sleepEvents (p : Params) (k : Nat) : List Event :=
  if k < p.repeatCount.toNat ∨ p.trailingDelay then [.sleep p.interPacketDelay] else []

theorem sleepEvents_no_send (p : Params) (k : Nat) : ∀ e ∈ sleepEvents p k, isSend e = false := by
  unfold sleepEvents
  split <;> simp [isSend]

/-- A SEND with its answer made true (R175). -/
theorem map_unanswered_sendEvents (s : State) :
    (sendEvents s).map unanswered =
      if s.dry then [] else [.send s.params.payload s.params.attemptsPerSend false true] := by
  unfold sendEvents
  split <;> rfl

theorem countP_isSend_sendEvents (s : State) : (sendEvents s).countP isSend = if s.dry then 0 else 1 := by
  unfold sendEvents
  split <;> rfl

/-- R16: SEND number `n` is a failed one when it is answered false. -/
theorem failedSends_sendEvents (s : State) (n : Nat) :
    failedSends n (sendEvents s) = if s.dry ∨ s.nextDraw.ok then [] else [BitVec.ofNat 32 n] := by
  cases hdry : s.dry <;> cases hok : s.nextDraw.ok <;> simp [sendEvents, hdry, hok, failedSends]

/-- The events of iteration `n + 1`, every SEND answered true, follow those of the `n` before it. -/
theorem loopEvents_succ (p : Params) (dry : Bool) (n : Nat) :
    loopEvents p dry (n + 1) = loopEvents p dry n ++
      ((if dry then [] else [.send p.payload p.attemptsPerSend false true]) ++ sleepEvents p (n + 1)) := by
  simp [loopEvents, sleepEvents, List.range_succ]

/-- A live job sends once in each iteration (R155), a dry run never (R160). -/
theorem countP_isSend_loopEvents (p : Params) (dry : Bool) (n : Nat) :
    (loopEvents p dry n).countP isSend = if dry then 0 else n := by
  induction n with
  | zero => cases dry <;> rfl
  | succ n ih =>
    rw [loopEvents_succ, List.countP_append, List.countP_append, ih, countP_isSend_of_no_send (sleepEvents_no_send p _)]
    cases dry <;> rfl

/-! ### When the invariant holds at a control point -/

/-- What R17 and R15 say of a running job: it holds the device and has neither error nor result. -/
structure Running (s : State) : Prop where
  wf : s.params.wf = true
  port : HostPort s
  held : s.owned = true
  noErr : s.err = none
  noResult : s.result = none

/-- Nothing sent, slept or inspected (R13, R16, R179). -/
def Untouched (s : State) : Prop :=
  s.k = 0#32 ∧ s.sendCalls = 0 ∧ s.sendFail = [] ∧ s.elapsed = 0 ∧ s.report = [] ∧ s.inspectErr = none

theorem running_of_jobInv {s : State} (h : JobInv s) (hb : s.busy = true) : Running s :=
  have ⟨ho, he, hr⟩ := h.running hb
  ⟨h.wf, h.port, ho, he, hr⟩

/-- Idle with its registers cleared: no job has run (R36). -/
theorem jobInv_of_cleared {s : State} (hwf : s.params.wf = true) (hport : HostPort s) (hs : s.state = .idle)
    (hheld : s.owned = false) (herr : s.err = none) (hresult : s.result = none) (hfail : s.sendFail = [])
    (htrace : s.trace = []) : JobInv s where
  wf := hwf
  port := hport
  released _ := hheld
  running hb := by simp [State.busy, hs] at hb
  failed h := by simp [hs] at h
  idle _ := ⟨herr, .inl ⟨hresult, htrace⟩⟩
  quiet h := by simp [hs] at h
  configuring h := by simp [hs] at h
  ready h := by simp [hs] at h
  sending h := by simp [hs] at h
  finished h := by simp [hresult] at h
  sendFail := by simp [hfail, htrace, failedSends]

/-- Configuring: the actions up to STEP are done (R161). -/
theorem Running.jobInv_of_configuring {s : State} (h : Running s) (hs : s.state = .configuring) (hu : Untouched s)
    (htrace : s.trace = configTrace s.params s.step.val) : JobInv s where
  wf := h.wf
  port := h.port
  released h := by simp [hs] at h
  running _ := ⟨h.held, h.noErr, h.noResult⟩
  failed h := by simp [hs] at h
  idle h := by simp [hs] at h
  quiet _ := hu
  configuring _ := htrace
  ready h := by simp [hs] at h
  sending h := by simp [hs] at h
  finished hr := by simp [h.noResult] at hr
  sendFail := by
    obtain ⟨-, -, hfail, -⟩ := hu
    simp [hfail, htrace, failedSends_of_no_send 1 (configTrace_no_send _ _)]

/-- Ready: every write is done (R152). -/
theorem Running.jobInv_of_ready {s : State} (h : Running s) (hs : s.state = .ready) (hu : Untouched s)
    (hstep : s.step = 16) (htrace : s.trace = configTrace s.params 16) : JobInv s where
  wf := h.wf
  port := h.port
  released h := by simp [hs] at h
  running _ := ⟨h.held, h.noErr, h.noResult⟩
  failed h := by simp [hs] at h
  idle h := by simp [hs] at h
  quiet h := by simp [hs] at h
  configuring h := by simp [hs] at h
  ready _ := by
    obtain ⟨hk, hcalls, hfail, helapsed, -⟩ := hu
    exact ⟨hstep, hk, hcalls, hfail, helapsed, htrace⟩
  sending h := by simp [hs] at h
  finished hr := by simp [h.noResult] at hr
  sendFail := by
    obtain ⟨-, -, hfail, -⟩ := hu
    simp [hfail, htrace, failedSends_of_no_send 1 (configTrace_no_send _ _)]

/-- R157: a job that failed before the loop: ACQUIRE's failure, or that of the action at STEP. -/
def FailedJob (s : State) (e : FatalError) : Prop :=
  e = .deviceUnavailable ∧ s.step = 0 ∧ s.trace = [.acquire .err] ∨
  ∃ event, failedAction s.params s.step.val = some (e, event) ∧
    s.trace = configTrace s.params s.step.val ++ [event, .release]

/-- Such a job has sent nothing. -/
theorem FailedJob.no_send {s : State} {e : FatalError} (h : FailedJob s e) : ∀ ev ∈ s.trace, isSend ev = false := by
  obtain ⟨-, -, ht⟩ | ⟨event, hev, ht⟩ := h
  · simp [ht, isSend]
  · intro ev hmem
    rw [ht, List.mem_append] at hmem
    rcases hmem with hmem | hmem
    · exact configTrace_no_send _ _ ev hmem
    · simp only [List.mem_cons, List.not_mem_nil, or_false] at hmem
      rcases hmem with rfl | rfl
      · exact failedAction_not_send hev
      · rfl

/-- Aborted: ERR and RESULT hold the error of a failed job (R15, R157). -/
theorem FailedJob.jobInv_of_aborted {s : State} {e : FatalError} (h : FailedJob s e) (hwf : s.params.wf = true)
    (hport : HostPort s) (hs : s.state = .aborted) (hheld : s.owned = false) (herr : s.err = some e)
    (hresult : s.result = some (.err e)) (hu : Untouched s) : JobInv s where
  wf := hwf
  port := hport
  released _ := hheld
  running hb := by simp [State.busy, hs] at hb
  failed _ := ⟨e, herr, hresult, h⟩
  idle h := by simp [hs] at h
  quiet _ := hu
  configuring h := by simp [hs] at h
  ready h := by simp [hs] at h
  sending h := by simp [hs] at h
  finished hr := by simp [hresult] at hr
  sendFail := by
    obtain ⟨-, -, hfail, -⟩ := hu
    simp [hfail, failedSends_of_no_send 1 h.no_send]

/-- The loop with `n` iterations done (R155, R161, R200): TRACE is the configuration, the reads of the inspection and
these iterations, which SEND_CALLS, ELAPSED and SEND_FAIL count. -/
structure LoopDone (s : State) (n : Nat) : Prop where
  step : s.step = 16
  traced : ∃ reads : List Event, reads.all isRead = true ∧ (s.diag = false → reads = []) ∧
    s.trace.map unanswered = configTrace s.params 16 ++ reads ++ loopEvents s.params s.dry n
  calls : s.sendCalls = if s.dry then 0 else n
  slept : s.elapsed =
    (if s.params.trailingDelay then n else min n (s.params.repeatCount.toNat - 1)) * s.params.interPacketDelay
  failBounds : ∀ x ∈ s.sendFail, 1 ≤ x.toNat ∧ x.toNat ≤ n
  failLength : s.sendFail.length ≤ n
  failed : s.sendFail = failedSends 1 s.trace ∧ s.sendFail.Pairwise (fun x y => x.toNat < y.toNat) ∧
    (s.dry = true → s.sendFail = [])

/-- Sending: K - 1 iterations are done (R155). -/
theorem LoopDone.jobInv_of_sending {s : State} {n : Nat} (h : LoopDone s n) (hr : Running s) (hs : s.state = .sending)
    (hk : s.k.toNat = n + 1) (hle : s.k.toNat ≤ s.params.repeatCount.toNat) : JobInv s where
  wf := hr.wf
  port := hr.port
  released h := by simp [hs] at h
  running _ := ⟨hr.held, hr.noErr, hr.noResult⟩
  failed h := by simp [hs] at h
  idle h := by simp [hs] at h
  quiet h := by simp [hs] at h
  configuring h := by simp [hs] at h
  ready h := by simp [hs] at h
  sending _ := by
    have hn : s.k.toNat - 1 = n := by omega
    have hmin : min n (s.params.repeatCount.toNat - 1) = n := by omega
    refine ⟨h.step, by omega, hle, hn ▸ h.traced, hn ▸ h.calls, ?_, fun x hx => ?_, hn ▸ h.failLength⟩
    · rw [h.slept, hmin, ite_self, hn]
    · have := h.failBounds x hx
      omega
  finished h := by simp [hr.noResult] at h
  sendFail := h.failed

/-- The finish path, every iteration done (R156, R160). -/
theorem LoopDone.jobInv_finish {s : State} (h : LoopDone s s.params.repeatCount.toNat) (hr : Running s)
    (hk : s.k = s.params.repeatCount) : JobInv s.finish where
  wf := hr.wf
  port := hr.port
  released _ := rfl
  running hb := by cases hb
  failed h := by cases h
  idle _ := ⟨hr.noErr, .inr rfl⟩
  quiet h := by simp at h
  configuring h := by cases h
  ready h := by cases h
  sending h := by cases h
  finished _ := by
    obtain ⟨reads, hreads, hdiag, htrace⟩ := h.traced
    refine ⟨rfl, h.step, hk, ⟨reads, hreads, hdiag, ?_⟩, h.calls, ?_, h.failBounds, h.failLength⟩
    · simp [htrace, unanswered]
    · rw [finish_elapsed, h.slept, Nat.min_eq_right (Nat.sub_le _ _)]
      rfl
  sendFail := by
    obtain ⟨hfail, hmono, hdry⟩ := h.failed
    refine ⟨?_, hmono, hdry⟩
    rw [finish_trace, failedSends_append, ← hfail]
    simp [failedSends]

/-! ### RUN and block reset -/

/-- Emptying the port keeps the invariant. -/
theorem jobInv_emptyPort {s : State} (h : JobInv s) : JobInv { s with port := none } :=
  { h with port := fun _ hr => by cases hr }

/-- R148, R149: RUN in Idle, ACQUIRE answered either way. -/
theorem jobInv_startJob {s : State} (h : JobInv s) (hs : s.state = .idle) (diag dry : Bool) :
    JobInv (s.clearJob diag dry).startJob := by
  have hfree : s.owned = false := h.released (.inl hs)
  unfold State.startJob State.acquire
  cases hok : (s.clearJob diag dry).nextDraw.ok
  · refine FailedJob.jobInv_of_aborted (e := .deviceUnavailable) (.inl ⟨rfl, ?_, ?_⟩) ?_ ?_ rfl ?_ rfl rfl ?_
    · simp
    · simp [hok, hfree, nextAnswer_of_err hok]
    · simpa using h.wf
    · simpa [HostPort] using h.port
    · simp
    · simp [Untouched]
  · refine Running.jobInv_of_configuring ⟨h.wf, h.port, ?_, rfl, rfl⟩ rfl ⟨rfl, rfl, rfl, rfl, rfl, rfl⟩ ?_
    · simp [hok]
    · simp [nextAnswer_of_ok hok, configTrace_zero]

/-! ### The actions of Configuring (R150 to R152) -/

theorem setmodeTxn_onlyTraced (s : State) (m : Mode) : OnlyTraced s (s.setmodeTxn m) [.setmode m s.nextAnswer] := rfl

theorem waitrdyTxn_onlyTraced (s : State) (d : Ticks) : OnlyTraced s (s.waitrdyTxn d) [.waitrdy d s.nextDraw.ok] := rfl

theorem wrregTxn_onlyTraced (s : State) (a v : Byte) : OnlyTraced s (s.wrregTxn a v) [.wrreg a v s.nextAnswer] := rfl

theorem exists_eq_of_onlyTraced {s t : State} {events : List Event} (h : OnlyTraced s t events) :
    ∃ answers drawn dev, t =
      { s with trace := s.trace ++ events, answers := answers, drawn := drawn, dev := dev } :=
  ⟨_, _, _, h⟩

/-- What the action of Configuring can do: at STEP = 16 it enters Ready; before, it is one transaction, which is
answered Ok and moves STEP on, or fails as `failedAction` says and takes the abort path. -/
theorem configAction_cases {s : State} (hwf : s.params.wf = true) :
    s.step = 16 ∧ s.configAction = { s with state := .ready } ∨
    (s.step.val < 16 ∧ ∃ u event, OnlyTraced s u [event] ∧ s.configAction = u.advanceStep ∧
      configTrace s.params (s.step.val + 1) = configTrace s.params s.step.val ++ [event]) ∨
    ∃ u event e, OnlyTraced s u [event] ∧ s.configAction = u.abort e ∧
      failedAction s.params s.step.val = some (e, event) := by
  unfold State.configAction State.advanceIf
  have hlt := s.step.isLt
  match hn : s.step.val with
  | 0 =>
    have htxn := setmodeTxn_onlyTraced s .standby
    cases hok : s.nextDraw.ok
    · rw [nextAnswer_of_err hok] at htxn
      exact .inr (.inr ⟨_, _, _, htxn, by simp [State.setMode, hok], rfl⟩)
    · rw [nextAnswer_of_ok hok] at htxn
      exact .inr (.inl ⟨by omega, _, _, htxn, by simp [State.setMode, hok], configTrace_one _⟩)
  | 1 =>
    have htxn := waitrdyTxn_onlyTraced s s.params.maxWait
    cases hok : s.nextDraw.ok <;> rw [hok] at htxn
    · exact .inr (.inr ⟨_, _, _, htxn, by simp [State.waitReady, hok], rfl⟩)
    · exact .inr (.inl ⟨by omega, _, _, htxn, by simp [State.waitReady, hok], configTrace_two _⟩)
  | i + 2 =>
    rw [if_neg (by omega), if_neg (by omega), Nat.add_sub_cancel, cfgTable_eq_map_cfgWords hwf, List.getElem?_map]
    cases hw : (cfgWords s.params)[i]? with
    | none =>
      rw [List.getElem?_eq_none_iff, cfgWords_length hwf] at hw
      exact .inl ⟨Fin.ext (by simp; omega), rfl⟩
    | some w =>
      have hi : i < 14 := cfgWords_length hwf ▸ (List.getElem?_eq_some_iff.mp hw).1
      have htxn := wrregTxn_onlyTraced s (s.params.addrOf w.1) w.2
      cases hok : s.nextDraw.ok
      · rw [nextAnswer_of_err hok] at htxn
        exact .inr (.inr ⟨_, _, .writeFailed w.1, htxn, by simp [runEntries_single, hok],
          by simp [failedAction, hw]⟩)
      · rw [nextAnswer_of_ok hok] at htxn
        exact .inr (.inl ⟨by omega, _, _, htxn, by simp [runEntries_single, hok], configTrace_write hw⟩)

/-- R11: STEP moves on by one. -/
theorem advanceStep_step_val {s : State} (h : s.step.val < 16) : s.advanceStep.step.val = s.step.val + 1 :=
  Nat.min_eq_left h

/-- R150 to R152: the action of Configuring keeps the invariant. -/
theorem jobInv_configAction {s : State} (h : JobInv s) (hs : s.state = .configuring) : JobInv s.configAction := by
  have hrun := running_of_jobInv h (by simp [State.busy, hs])
  have hu : Untouched s := h.quiet (.inl hs)
  have htrace := h.configuring hs
  rcases configAction_cases h.wf with
    ⟨h16, heq⟩ | ⟨hlt, u, event, hu', heq, hnext⟩ | ⟨u, event, e, hu', heq, hfail⟩ <;> rw [heq]
  · have hrun' : Running { s with state := .ready } := { hrun with }
    exact hrun'.jobInv_of_ready rfl hu h16 (by simpa [h16] using htrace)
  · obtain ⟨answers, drawn, dev, rfl⟩ := exists_eq_of_onlyTraced hu'
    refine Running.jobInv_of_configuring { hrun with } hs hu ?_
    simp [advanceStep_step_val, hlt, hnext, htrace]
  · obtain ⟨answers, drawn, dev, rfl⟩ := exists_eq_of_onlyTraced hu'
    refine FailedJob.jobInv_of_aborted (.inr ⟨event, ?_, ?_⟩) ?_ ?_ rfl ?_ rfl rfl ?_
    · simpa using hfail
    · simp [htrace, hrun.held]
    · simpa using hrun.wf
    · simpa [HostPort] using hrun.port
    · simp
    · simpa [Untouched] using hu

/-! ### Ready (R153, R154) -/

/-- The inspection appends reads to TRACE and nothing else (R110). -/
theorem inspectLoop_trace (ls : List Label) (seen : List (Label × Byte)) (s : State) :
    ∃ reads : List Event, reads.all isRead = true ∧ (State.inspectLoop ls seen s).trace = s.trace ++ reads := by
  induction ls generalizing seen s with
  | nil => exact ⟨[], rfl, by simp [State.inspectLoop]⟩
  | cons l ls ih =>
    simp only [State.inspectLoop]
    split
    · exact ⟨_, rfl, rdregTxn_trace _ _⟩
    · obtain ⟨reads, hreads, heq⟩ := ih _ _
      exact ⟨.rdreg (s.params.addrOf l) (s.readAnswer (s.params.addrOf l)) :: reads, hreads, heq.trans (by simp)⟩

theorem inspectLabels_trace (s : State) (ls : List Label) :
    ∃ reads : List Event, reads.all isRead = true ∧ (s.inspectLabels ls).trace = s.trace ++ reads :=
  inspectLoop_trace _ _ _

/-- R153: the inspection of Ready appends its reads to TRACE, none without DIAG, and writes REPORT and INSPECT_ERR. -/
theorem readyInspect_eq (s : State) :
    ∃ reads report inspectErr answers drawn, reads.all isRead = true ∧ (s.diag = false → reads = []) ∧
      s.readyInspect = { s with
        trace := s.trace ++ reads
        report := report
        inspectErr := inspectErr
        answers := answers
        drawn := drawn } := by
  unfold State.readyInspect
  split
  · next hdiag =>
    obtain ⟨reads, hreads, htrace⟩ := inspectLabels_trace s s.params.regsOfInterest
    have hframe := inspectLabels_frame s s.params.regsOfInterest
    rw [htrace] at hframe
    exact ⟨reads, _, _, _, _, hreads, fun h => absurd (hdiag.symm.trans h) nofun, hframe⟩
  · exact ⟨[], s.report, s.inspectErr, s.answers, s.drawn, rfl, fun _ => rfl, by rw [List.append_nil]⟩

/-- LoopDone reads neither K nor STATE. -/
theorem LoopDone.of_control {s : State} {n : Nat} (h : LoopDone s n) (k : Count) (state : JobState) :
    LoopDone { s with k := k, state := state } n :=
  ⟨h.step, h.traced, h.calls, h.slept, h.failBounds, h.failLength, h.failed⟩

/-- R153, R154: the action of Ready keeps the invariant. -/
theorem jobInv_readyAction {s : State} (h : JobInv s) (hs : s.state = .ready) : JobInv s.readyAction := by
  have hrun := running_of_jobInv h (by simp [State.busy, hs])
  obtain ⟨hstep, hk, hcalls, hfail, helapsed, htrace⟩ := h.ready hs
  obtain ⟨reads, report, inspectErr, answers, drawn, hreads, hdiag, heq⟩ := readyInspect_eq s
  unfold State.readyAction
  rw [heq]
  have hsent : ∀ e ∈ s.trace ++ reads, isSend e = false := by
    intro e he
    rcases List.mem_append.mp he with he | he
    · exact configTrace_no_send s.params 16 e (htrace ▸ he)
    · exact no_send_of_reads hreads e he
  have hdone : LoopDone { s with
      trace := s.trace ++ reads
      report := report
      inspectErr := inspectErr
      answers := answers
      drawn := drawn } 0 := by
    refine ⟨hstep, ⟨reads, hreads, hdiag, ?_⟩, ?_, ?_, ?_, ?_, ?_⟩
    · simpa [htrace, loopEvents] using map_unanswered_of_no_send hsent
    · simp [hcalls]
    · simp [helapsed]
    · simp [hfail]
    · simp [hfail]
    · simp [hfail, failedSends_of_no_send 1 hsent]
  split
  · next hzero =>
    refine LoopDone.jobInv_finish ?_ { hrun with } (hk.trans hzero.symm)
    simpa [hzero] using hdone
  · next hpos =>
    have hone : 1 ≤ s.params.repeatCount.toNat := Nat.pos_of_ne_zero fun h0 => hpos (BitVec.eq_of_toNat_eq h0)
    exact (hdone.of_control 1#32 .sending).jobInv_of_sending { hrun with } rfl rfl hone

/-! ### Sending (R155, R156) -/

/-- The send of one iteration, register by register (R155, R175). -/
theorem iterationSend_eq (s : State) :
    ∃ dev answers drawn, s.iterationSend = { s with
      trace := s.trace ++ sendEvents s
      sendCalls := s.sendCalls + (sendEvents s).countP isSend
      sendFail := if s.dry ∨ s.nextDraw.ok then s.sendFail else s.sendFail ++ [s.k]
      dev := dev
      answers := answers
      drawn := drawn } := by
  unfold State.iterationSend State.noteSend sendEvents
  by_cases hdry : s.dry = true
  · exact ⟨s.dev, s.answers, s.drawn, by
      rw [if_pos hdry, if_pos hdry, if_pos (.inl hdry), List.append_nil]; rfl⟩
  · by_cases hok : s.nextDraw.ok = true
    · exact ⟨_, _, _, by rw [if_neg hdry, if_neg hdry, if_pos hok, if_pos (.inr hok)]; rfl⟩
    · exact ⟨_, _, _, by rw [if_neg hdry, if_neg hdry, if_neg hok, if_neg (by tauto)]; rfl⟩

/-- The delay of one iteration, register by register (R155). -/
theorem iterationSleep_eq (s : State) :
    s.iterationSleep = { s with
      trace := s.trace ++ sleepEvents s.params s.k.toNat
      elapsed := s.elapsed + ((sleepEvents s.params s.k.toNat).map sleepTicks).sum } := by
  unfold State.iterationSleep sleepEvents
  split
  · rfl
  · rw [List.append_nil]; rfl

/-- In the loop SEND_CALLS is the number of SENDs in TRACE (R16). -/
theorem LoopDone.countP_isSend {s : State} {n : Nat} (h : LoopDone s n) :
    s.trace.countP isSend = if s.dry then 0 else n := by
  obtain ⟨reads, hreads, -, htrace⟩ := h.traced
  rw [← countP_isSend_map_unanswered, htrace, List.countP_append, List.countP_append,
    countP_isSend_of_no_send (configTrace_no_send _ _), countP_isSend_of_no_send (no_send_of_reads hreads),
    countP_isSend_loopEvents]
  omega

/-- The ticks of the SLEEPs of `n + 1` iterations (R155, R160). -/
theorem slept_succ (p : Params) {n : Nat} (hle : n + 1 ≤ p.repeatCount.toNat) :
    (if p.trailingDelay then n + 1 else min (n + 1) (p.repeatCount.toNat - 1)) * p.interPacketDelay =
      (if p.trailingDelay then n else min n (p.repeatCount.toNat - 1)) * p.interPacketDelay +
        ((sleepEvents p (n + 1)).map sleepTicks).sum := by
  cases htrail : p.trailingDelay
  · by_cases hlt : n + 1 < p.repeatCount.toNat
    · have hmin : min n (p.repeatCount.toNat - 1) = n := by omega
      have hmin' : min (n + 1) (p.repeatCount.toNat - 1) = n + 1 := by omega
      simp [sleepEvents, hlt, hmin, hmin', sleepTicks, Nat.succ_mul]
    · have hmin : min (n + 1) (p.repeatCount.toNat - 1) = min n (p.repeatCount.toNat - 1) := by omega
      simp [sleepEvents, hlt, htrail, hmin]
  · simp [sleepEvents, htrail, sleepTicks, Nat.succ_mul]

/-- R155: one iteration more is done. -/
theorem LoopDone.iteration {s : State} {n : Nat} (h : LoopDone s n) (hk : s.k.toNat = n + 1)
    (hle : s.k.toNat ≤ s.params.repeatCount.toNat) : LoopDone s.iterationSend.iterationSleep (n + 1) := by
  obtain ⟨dev, answers, drawn, heq⟩ := iterationSend_eq s
  rw [iterationSleep_eq, heq]
  have hcount := h.countP_isSend
  obtain ⟨hstep, ⟨reads, hreads, hdiag, htrace⟩, hcalls, hslept, hbounds, hlength, hfail, hmono, hdry⟩ := h
  have hsleep := sleepEvents_no_send s.params s.k.toNat
  have hfailed : failedSends 1 (s.trace ++ sendEvents s ++ sleepEvents s.params s.k.toNat) =
      if s.dry ∨ s.nextDraw.ok then s.sendFail else s.sendFail ++ [s.k] := by
    rw [failedSends_append, failedSends_of_no_send _ hsleep, List.append_nil, failedSends_append, ← hfail,
      failedSends_sendEvents]
    split
    · rw [List.append_nil]
    · next hsent =>
      have hnum : 1 + s.trace.countP isSend = s.k.toNat := by
        simp only [hcount, Bool.eq_false_iff.mpr fun h => hsent (.inl h), Bool.false_eq_true, if_false, hk]
        omega
      rw [hnum, BitVec.ofNat_toNat, BitVec.setWidth_eq]
  refine ⟨hstep, ⟨reads, hreads, hdiag, ?_⟩, ?_, ?_, ?_, ?_, hfailed.symm, ?_, ?_⟩
  · simp [htrace, loopEvents_succ, map_unanswered_sendEvents, hk,
      map_unanswered_of_no_send (sleepEvents_no_send s.params (n + 1))]
  · simp only [hcalls, countP_isSend_sendEvents]
    split <;> rfl
  · simp only [hslept, slept_succ s.params (hk ▸ hle), hk]
  · intro x hx
    have hx : x ∈ s.sendFail ∨ x = s.k := by
      split at hx
      · exact .inl hx
      · simpa using hx
    rcases hx with hx | rfl
    · have := hbounds x hx
      omega
    · omega
  · dsimp only
    split
    · omega
    · simpa using hlength
  · dsimp only
    split
    · exact hmono
    · refine List.pairwise_append.mpr ⟨hmono, List.pairwise_singleton _ _, fun x hx y hy => ?_⟩
      have := hbounds x hx
      rw [List.mem_singleton.mp hy]
      omega
  · intro h
    rw [if_pos (.inl h)]
    exact hdry h

/-- In Sending, K - 1 iterations are done (R155). -/
theorem loopDone_of_sending {s : State} (h : JobInv s) (hs : s.state = .sending) : LoopDone s (s.k.toNat - 1) := by
  obtain ⟨hstep, hone, hle, htraced, hcalls, helapsed, hbounds, hlength⟩ := h.sending hs
  have hmin : min (s.k.toNat - 1) (s.params.repeatCount.toNat - 1) = s.k.toNat - 1 := by omega
  refine ⟨hstep, htraced, hcalls, by rw [hmin, ite_self, helapsed], fun x hx => ?_, hlength, h.sendFail⟩
  have := hbounds x hx
  omega

/-- R155, R156: an iteration keeps the invariant. -/
theorem jobInv_sendAction {s : State} (h : JobInv s) (hs : s.state = .sending) : JobInv s.sendAction := by
  have hrun := running_of_jobInv h (by simp [State.busy, hs])
  obtain ⟨-, hone, hle, -⟩ := h.sending hs
  have hk : s.k.toNat = s.k.toNat - 1 + 1 := by omega
  have hdone := (loopDone_of_sending h hs).iteration hk hle
  obtain ⟨dev, answers, drawn, heq⟩ := iterationSend_eq s
  unfold State.sendAction
  rw [iterationSleep_eq, heq] at hdone ⊢
  rw [← hk] at hdone
  split
  · next hlt =>
    have hsucc : (s.k + 1#32).toNat = s.k.toNat + 1 := BitVec.toNat_add_of_lt (by simp; omega)
    exact (hdone.of_control (s.k + 1#32) s.state).jobInv_of_sending { hrun with } hs hsucc (hsucc.trans_le hlt)
  · next hge =>
    have hlast : s.k = s.params.repeatCount := BitVec.eq_of_toNat_eq (Nat.le_antisymm hle (Nat.le_of_not_lt hge))
    exact LoopDone.jobInv_finish (hlast ▸ hdone) { hrun with } hlast

/-! ### The obligations -/

/-- The invariant is kept by the action of every control point (R11). -/
theorem jobInv_action {s t : State} (h : JobInv s) (hact : s.action = .next t) : JobInv t := by
  rcases action_cases hact with ⟨-, rfl⟩ | ⟨hs, rfl⟩ | ⟨hs, rfl⟩ | ⟨hs, -, rfl⟩
  · exact h
  · exact jobInv_configAction h hs
  · exact jobInv_readyAction h hs
  · exact jobInv_sendAction h hs

/-- The invariant after block reset (R190). -/
theorem jobInv_blockReset {s : State} (hwf : s.params.wf = true) : JobInv s.blockReset :=
  jobInv_of_cleared hwf nofun rfl rfl rfl rfl rfl rfl

/-- Settles O47: a step is the action of the control point, or takes block reset or a command word from the port. -/
theorem jobInvariantKept : Obligations.JobInvariantKept := by
  intro s t h hstep
  obtain ⟨-, ⟨-, hact⟩ | ⟨r, hr, hreq⟩⟩ := step_eq_next_iff.mp hstep
  · exact jobInv_action h hact
  · have hempty := jobInv_emptyPort h
    obtain rfl | ⟨w, rfl⟩ := h.port r hr
    · obtain ⟨-, rfl⟩ := stepRequest_reset hreq
      exact jobInv_blockReset hempty.wf
    · rcases stepRequest_command { s with port := none } w with ⟨hidle, diag, dry, heq⟩ | heq
      · obtain rfl := Host.Outcome.next.inj (heq.symm.trans hreq)
        exact jobInv_startJob hempty hidle diag dry
      · obtain rfl := Host.Outcome.next.inj (heq.symm.trans hreq)
        exact hempty

/-- The invariants at reset, under any well-formed parameters (R36). -/
theorem invariants_resetWith {p : Params} (hwf : p.wf = true) :
    JobInv (State.resetWith p) ∧ Accounting (State.resetWith p) ∧ DeviceInv (State.resetWith p) :=
  ⟨jobInv_of_cleared hwf nofun rfl rfl rfl rfl rfl rfl, ⟨rfl, rfl⟩, reset_dev_wf p⟩

/-- Settles O48: at reset no job has run, TRACE is empty, and no cell of the device is known. -/
theorem invariantsAtReset : Obligations.InvariantsAtReset :=
  ⟨invariants_resetWith (by decide +kernel), fun _ => invariants_resetWith⟩

end Sys2Proof
end

section
/-!
PROOFS. The register space of the ideal device (spec/20_memory.md R40, R53): what is read after a write, and the
canonical form kept by every step; that TRACE only grows while a job runs (spec/10_state.md R18, R46); and an APPLY
that fails (R52).
-/

namespace Sys2Proof

open Machine Safety Laws

/-! ### Read after write (R40, R53) -/

/-- R53: the written byte is read back. -/
@[simp] theorem memory_read_write_same (cells : List Host.Cell) (a : Nat) (v : Byte) :
    Memory.read (Memory.write cells a v) a = some v := by
  induction cells with
  | nil => simp [Memory.write, Memory.read]
  | cons c cells ih =>
    simp only [Memory.write]
    split
    · simp [Memory.read]
    · split
      · simp [Memory.read]
      · next hne => simp [Memory.read, Ne.symm hne, ih]

/-- R40: a write touches no other address. -/
theorem memory_read_write_of_ne (cells : List Host.Cell) {a x : Nat} (v : Byte) (h : x ≠ a) :
    Memory.read (Memory.write cells a v) x = Memory.read cells x := by
  induction cells with
  | nil => simp [Memory.write, Memory.read, h.symm]
  | cons c cells ih =>
    simp only [Memory.write]
    split
    · simp [Memory.read, h.symm]
    · split
      · next heq => simp [Memory.read, h.symm, ← heq]
      · simp [Memory.read, ih]

/-- Settles O29: both hold of every list of cells, in canonical form or not. -/
theorem registerSpaceReadAfterWrite : Obligations.RegisterSpaceReadAfterWrite :=
  fun cells a _ v => ⟨memory_read_write_same cells a v, memory_read_write_of_ne cells v⟩

/-! ### The canonical form is kept (R40)

An update of another register than `dev` keeps it by definition. -/

/-- Whichever of two branches is taken. -/
theorem deviceInv_ite {t u : State} {c : Prop} [Decidable c] (ht : DeviceInv t) (hu : DeviceInv u) :
    DeviceInv (if c then t else u) := by
  split <;> assumption

section

variable {s : State} (h : DeviceInv s)
include h

theorem deviceInv_abort (e : FatalError) : DeviceInv (s.abort e) := by
  rw [DeviceInv, abort_dev]
  exact deviceAfterError_wf h e

/-! Transactions with what their failure raises (R9, R140, R143 to R145). -/

theorem deviceInv_acquire : DeviceInv s.acquire :=
  have htxn : DeviceInv s.acquireTxn := deviceAfterAcquire_wf h
  deviceInv_ite htxn (deviceInv_abort htxn _)

theorem deviceInv_setMode (m : Mode) : DeviceInv (s.setMode m) :=
  have htxn : DeviceInv (s.setmodeTxn m) := devAfterMode_wf h
  deviceInv_ite htxn (deviceInv_abort htxn _)

theorem deviceInv_waitReady (d : Ticks) : DeviceInv (s.waitReady d) :=
  have htxn : DeviceInv (s.waitrdyTxn d) := devAfterMode_wf h
  deviceInv_ite htxn (deviceInv_abort htxn _)

theorem deviceInv_memWrite (l : Label) (a v : Byte) : DeviceInv (s.memWrite l a v) :=
  have htxn : DeviceInv (s.wrregTxn a v) := devAfterWrite_wf h a v
  deviceInv_ite htxn (deviceInv_abort htxn _)

theorem deviceInv_sendTxn (payload : List Byte) (attempts : Count) (ack : Bool) :
    DeviceInv (s.sendTxn payload attempts ack) :=
  devAfterMode_wf h

/-! Runs of writes (R91, R102) and of reads (R110), and RUN (R148). -/

theorem deviceInv_writeEntries (es : List CfgEntry) : DeviceInv (State.writeEntries es s).2 := by
  induction es generalizing s with
  | nil => exact h
  | cons e es ih =>
    simp only [State.writeEntries]
    split
    · exact h
    · next b _ =>
      have htxn : DeviceInv (s.wrregTxn (s.params.addrOf e.label) b) := devAfterWrite_wf h _ _
      split
      · exact ih htxn
      · exact htxn

theorem deviceInv_runEntries (es : List CfgEntry) : DeviceInv (s.runEntries es) := by
  have hw := deviceInv_writeEntries h es
  unfold State.runEntries
  split <;> (rename_i heq; rw [heq] at hw)
  · exact hw
  · exact deviceInv_abort hw _
  · exact hw

theorem deviceInv_execApply {t : State} (hexec : execApply s = .next t) : DeviceInv t := by
  have hw := deviceInv_writeEntries h s.params.cfgTable
  obtain rfl := Host.Outcome.next.inj hexec
  split <;> (rename_i heq; rw [heq] at hw)
  · exact hw
  · exact deviceInv_abort hw _
  · exact hw

/-- R45: reads have no effect on the device. -/
theorem deviceInv_inspectLabels (ls : List Label) : DeviceInv (s.inspectLabels ls) := by
  rw [inspectLabels_frame]
  exact h

theorem deviceInv_execInspect {t : State} {labels : List Byte} (hexec : execInspect labels s = .next t) :
    DeviceInv t := by
  obtain rfl := Host.Outcome.next.inj hexec
  split
  · exact h
  · exact deviceInv_inspectLabels h _

theorem deviceInv_startJob : DeviceInv s.startJob :=
  have hacquire := deviceInv_acquire h
  deviceInv_ite hacquire hacquire

/-- Every operation keeps the canonical form. -/
theorem deviceInv_exec {t : State} {i : Instr} (hexec : exec i s = .next t) : DeviceInv t := by
  cases i
  case apply => exact deviceInv_execApply h hexec
  case inspect labels => exact deviceInv_execInspect h hexec
  all_goals obtain rfl := Host.Outcome.next.inj hexec
  case run diag dry => exact deviceInv_ite (deviceInv_startJob (s := s.clearJob diag dry) h) h
  case cfgFreq | cfgDatamodul | cfgPacket | cfgPaylen | cfgFifo | cfgPreambleSync | cfgBitrate | cfgPaOcp =>
    exact deviceInv_runEntries h _
  case acquire => exact deviceInv_acquire h
  case setmode m => exact deviceInv_setMode h m
  case waitrdy d => exact deviceInv_waitReady h d
  case send payload attempts ack => exact deviceInv_sendTxn h payload attempts ack
  -- the operations that write no register of the device
  case decode | fieldValue | fieldInsert | encode | release | rdreg | sleep => exact h
  -- WRREG, and the 14 configuration words, each a WRREG of its own address and byte (R68)
  all_goals exact deviceInv_memWrite h _ _ _

/-! The actions of a job (R150 to R156). -/

theorem deviceInv_configAction : DeviceInv s.configAction := by
  unfold State.configAction
  split
  · have hmode := deviceInv_setMode h .standby
    exact deviceInv_ite hmode hmode
  · split
    · have hwait := deviceInv_waitReady h s.params.maxWait
      exact deviceInv_ite hwait hwait
    · split
      · next e _ =>
        have hwrite := deviceInv_runEntries h [e]
        exact deviceInv_ite hwrite hwrite
      · exact h

theorem deviceInv_readyAction : DeviceInv s.readyAction :=
  have hinspect : DeviceInv s.readyInspect := deviceInv_ite (deviceInv_inspectLabels h _) h
  deviceInv_ite hinspect hinspect

theorem deviceInv_iterationSend : DeviceInv s.iterationSend :=
  have htxn := deviceInv_sendTxn h s.params.payload s.params.attemptsPerSend false
  deviceInv_ite h (deviceInv_ite htxn htxn)

theorem deviceInv_sendAction : DeviceInv s.sendAction :=
  have hsend := deviceInv_iterationSend h
  have hsleep : DeviceInv s.iterationSend.iterationSleep := deviceInv_ite hsend hsend
  deviceInv_ite hsleep hsleep

/-- The action of every control point keeps the canonical form (R11). -/
theorem deviceInv_action {t : State} (hact : s.action = .next t) : DeviceInv t := by
  rcases action_cases hact with ⟨-, rfl⟩ | ⟨-, rfl⟩ | ⟨-, rfl⟩ | ⟨-, -, rfl⟩
  · exact h
  · exact deviceInv_configAction h
  · exact deviceInv_readyAction h
  · exact deviceInv_sendAction h

end

/-- Settles O50: a step is the action of the control point, an operation, or block reset, which leaves no cell known. -/
theorem deviceFormKept : Obligations.DeviceFormKept := by
  intro s t h hstep
  obtain ⟨-, ⟨-, hact⟩ | ⟨r, -, hreq⟩⟩ := step_eq_next_iff.mp hstep
  · exact deviceInv_action h hact
  · have hempty : DeviceInv { s with port := none } := h
    rcases stepRequest_cases hreq with ⟨-, rfl⟩ | ⟨i, hexec⟩ | rfl
    · rfl
    · exact deviceInv_exec hempty hexec
    · exact hempty

/-! ### TRACE of a running job (R18, R46) -/

/-- Going on adds events at the end of TRACE. -/
theorem Continues.trace_prefix {s t : State} (h : Continues s t) : s.trace <+: t.trace := by
  obtain ⟨events, ht, -, -⟩ := h.counted
  exact ⟨events, ht.symm⟩

/-- Settles O55: during a job the host's inputs do nothing, since block reset has no meaning and RUN is refused. -/
theorem traceOnlyGrows : Obligations.TraceOnlyGrows := by
  intro s t hhost hbusy hstep
  obtain ⟨-, ⟨-, hact⟩ | ⟨r, hr, hreq⟩⟩ := step_eq_next_iff.mp hstep
  · exact (action_continues hact).trace_prefix
  · obtain rfl | ⟨w, rfl⟩ := hhost r hr
    · obtain ⟨hnotBusy, -⟩ := stepRequest_reset hreq
      exact absurd (hbusy.symm.trans hnotBusy) (by decide)
    · rcases stepRequest_command { s with port := none } w with ⟨hidle, -⟩ | hrefused
      · have hnotBusy : s.busy = false := by rw [State.busy, show s.state = .idle from hidle]
        exact absurd (hbusy.symm.trans hnotBusy) (by decide)
      · obtain rfl := Host.Outcome.next.inj (hrefused.symm.trans hreq)
        exact List.prefix_rfl

/-! ### An APPLY that fails (R52) -/

/-- The state after reset, where the next answer of the environment is Err. -/
def resetThenErr : State :=
  { State.reset with answers := [⟨false, 0x00#8⟩] }

/-- R91, R102: APPLY returns the failure of its first write. -/
theorem execApply_resetThenErr :
    ∃ t, exec .apply resetThenErr = .next t ∧ t.ret = some (.applied (.err (.writeFailed .frfMsb))) :=
  ⟨_, rfl, rfl⟩

/-- Refutes O34: the environment may answer the first write with Err. -/
theorem not_applyAlwaysSucceeds : ¬ Obligations.ApplyAlwaysSucceeds := by
  intro h
  obtain ⟨t, hexec, hret⟩ := execApply_resetThenErr
  have hok := h resetThenErr t (by decide +kernel) hexec
  exact absurd (hret.symm.trans hok) (by decide)

end Sys2Proof
end

section
/-!
PROOFS. The codec (spec/30_encoding.md): the bits of a field after insertion (R60), the bytes of a wide value (R62),
requests and the operations they carry (R66 to R70), and what a refused request leaves unchanged (R65(e)).
-/

namespace Sys2Proof

open Machine Safety Laws

/-! ### Requests carry their operations (R66 to R70) -/

/-- Settles O10: one round trip per constructor, in the order of `Instr`. -/
theorem requestRoundTrip : Obligations.RequestRoundTrip := fun i =>
  i.casesOn (motive := EncodeRoundTrip.Statement)
    EncodeRoundTrip.decode EncodeRoundTrip.fieldValue EncodeRoundTrip.fieldInsert EncodeRoundTrip.encode
    EncodeRoundTrip.run EncodeRoundTrip.apply EncodeRoundTrip.inspect
    EncodeRoundTrip.cfgFreq EncodeRoundTrip.cfgDatamodul EncodeRoundTrip.cfgPacket EncodeRoundTrip.cfgPaylen
    EncodeRoundTrip.cfgFifo EncodeRoundTrip.cfgPreambleSync EncodeRoundTrip.cfgBitrate EncodeRoundTrip.cfgPaOcp
    EncodeRoundTrip.wrFrfMsb EncodeRoundTrip.wrFrfMid EncodeRoundTrip.wrFrfLsb EncodeRoundTrip.wrDatamodul
    EncodeRoundTrip.wrPacketConfig1 EncodeRoundTrip.wrPayloadLength EncodeRoundTrip.wrFifoThresh
    EncodeRoundTrip.wrPreambleMsb EncodeRoundTrip.wrPreambleLsb EncodeRoundTrip.wrSyncConfig
    EncodeRoundTrip.wrBitrateMsb EncodeRoundTrip.wrBitrateLsb EncodeRoundTrip.wrPaLevel EncodeRoundTrip.wrOcp
    EncodeRoundTrip.acquire EncodeRoundTrip.release EncodeRoundTrip.rdreg EncodeRoundTrip.wrreg
    EncodeRoundTrip.setmode EncodeRoundTrip.waitrdy EncodeRoundTrip.send EncodeRoundTrip.sleep

/-! ### Fields of a byte (R60) -/

/-- The mask of a field holds exactly its bits. -/
theorem fieldMask_getLsbD {high low i : Nat} (hlow : low ≤ high) (hi : i < 8) :
    (fieldMask high low).getLsbD i = decide (low ≤ i ∧ i ≤ high) := by
  have hwidth : i - low < high - low + 1 ↔ i ≤ high := by omega
  rw [fieldMask, BitVec.getLsbD_ofNat, Nat.testBit_mul_two_pow, Nat.testBit_two_pow_sub_one]
  simp [hi, hwidth]

/-- After insertion the field's bits are those of the value, and every other bit is as it was. -/
theorem insertField_getLsbD (b : Byte) {high low v i : Nat} (hlow : low ≤ high) (hv : v < 2 ^ (high - low + 1))
    (hi : i < 8) :
    (insertField b high low v).getLsbD i = if low ≤ i ∧ i ≤ high then v.testBit (i - low) else b.getLsbD i := by
  have habove : high < i → v.testBit (i - low) = false := fun hgt =>
    Nat.testBit_lt_two_pow (hv.trans_le (Nat.pow_le_pow_right (by decide) (by omega)))
  simp only [insertField, BitVec.getLsbD_or, BitVec.getLsbD_and, BitVec.getLsbD_not, fieldMask_getLsbD hlow hi,
    BitVec.getLsbD_ofNat, Nat.testBit_mul_two_pow, hi, decide_true, Bool.true_and]
  split
  · next hin => simp [hin]
  · next hout =>
    by_cases hge : low ≤ i
    · simp [hout, habove (by omega)]
    · simp [hge]

/-- The bits of an extracted field are the byte's, down to its low bit. -/
theorem extractField_testBit (raw : Byte) (high low i : Nat) :
    (extractField raw high low).testBit i = (decide (i < high - low + 1) && raw.getLsbD (low + i)) := by
  simp [extractField, Nat.testBit_mod_two_pow, Nat.testBit_div_two_pow, BitVec.getLsbD, Nat.add_comm]

/-- R60: a value that fits is extracted as it was inserted. -/
theorem extractField_insertField (b : Byte) {high low v : Nat} (hlow : low ≤ high) (hhigh : high ≤ 7)
    (hv : v < 2 ^ (high - low + 1)) : extractField (insertField b high low v) high low = v := by
  refine Nat.eq_of_testBit_eq fun i => ?_
  rw [extractField_testBit]
  by_cases hi : i < high - low + 1
  · have hin : low ≤ low + i ∧ low + i ≤ high := by omega
    rw [insertField_getLsbD b hlow hv (by omega), if_pos hin]
    simp [hi]
  · have hzero : v.testBit i = false :=
      Nat.testBit_lt_two_pow (hv.trans_le (Nat.pow_le_pow_right (by decide) (by omega)))
    simp [hi, hzero]

/-- Settles O2: both parts from the bits of the byte after insertion. -/
theorem fieldInsertThenExtract : Obligations.FieldInsertThenExtract := by
  intro b high low v hlow hhigh hv
  refine ⟨extractField_insertField b hlow hhigh hv, fun i hi hout => ?_⟩
  rw [insertField_getLsbD b hlow hv hi, if_neg (by omega)]

/-! ### The bytes of a wide value (R62, R42) -/

@[simp] theorem bytesBE_length (n v : Nat) : (bytesBE n v).length = n := by
  induction n with
  | zero => rfl
  | succ n ih => simp [bytesBE, ih]

/-- Assembling goes on from the bytes already read. -/
theorem foldl_bytesBE (n v acc : Nat) :
    (bytesBE n v).foldl (fun acc b => acc * 256 + b.toNat) acc = acc * 256 ^ n + v % 256 ^ n := by
  induction n generalizing acc with
  | zero => simp [bytesBE, Nat.mod_one]
  | succ n ih =>
    have hsplit : v % 256 ^ (n + 1) = v % 256 ^ n + 256 ^ n * (v / 256 ^ n % 256) := Nat.mod_pow_succ
    simp only [bytesBE, List.foldl_cons, ih, hsplit, BitVec.toNat_ofNat, Nat.reducePow]
    ring

/-- Assembling the bytes gives the value back, as far as they hold it. -/
theorem natBE_bytesBE (n v : Nat) : natBE (bytesBE n v) = v % 256 ^ n := by
  rw [natBE, foldl_bytesBE, Nat.zero_mul, Nat.zero_add]

/-- The byte at each place, the most significant at place 0. -/
theorem bytesBE_getElem? {n i : Nat} (v : Nat) (hi : i < n) :
    (bytesBE n v)[i]? = some (BitVec.ofNat 8 (v / 256 ^ (n - 1 - i))) := by
  induction n generalizing i with
  | zero => omega
  | succ n ih =>
    cases i with
    | zero => simp [bytesBE]
    | succ i =>
      rw [bytesBE, List.getElem?_cons_succ, ih (by omega), show n + 1 - 1 - (i + 1) = n - 1 - i by omega]

/-- Settles O13: 8 bits are one place to the base 256. -/
theorem wideValuesSplitAndAssemble : Obligations.WideValuesSplitAndAssemble := by
  intro n v hv
  have hbase (k : Nat) : 2 ^ (8 * k) = 256 ^ k := pow_mul 2 8 k
  refine ⟨bytesBE_length n v, ?_, fun i hi => ?_⟩
  · rw [natBE_bytesBE, Nat.mod_eq_of_lt (hbase n ▸ hv)]
  · have hbyte (x : Nat) : BitVec.ofNat 8 (x % 256) = BitVec.ofNat 8 x := by
      apply BitVec.eq_of_toNat_eq
      simp
    rw [bytesBE_getElem? v hi, hbase, hbyte]

/-! ### Configuration words (R68, R143) -/

/-- The request that carries one of the 14 words is its address and its byte. -/
theorem encodeRequest_of_wordOf {i : Instr} {a v : Byte} (h : wordOf i = some (a, v)) :
    encodeRequest i = .configWord (a ++ v) := by
  cases i <;> cases h
  case wrFifoThresh t => revert t; decide
  case wrSyncConfig n => revert n; decide
  case wrPaLevel p q => revert p q; decide
  case wrOcp c => revert c; decide
  all_goals rfl

/-- Every word is well formed, whatever its operand. -/
theorem wellFormed_of_wordOf {i : Instr} {w : Byte × Byte} (h : wordOf i = some w) : i.wellFormed = true := by
  cases i <;> cases h <;> rfl

/-- Executing the operation of a configuration word executes the word. -/
theorem exec_of_configWord {i : Instr} {w : BitVec 16} (h : encodeRequest i = .configWord w) (s : State) :
    exec i s = .next (s.execWord w) := by
  cases i <;> cases h <;> rfl

/-- Each of the 14 words does what the WRREG of its address and byte does. -/
theorem exec_of_wordOf {i : Instr} {a v : Byte} (h : wordOf i = some (a, v)) (s : State) :
    exec i s = exec (.wrreg a v) s := by
  rw [exec_of_configWord (encodeRequest_of_wordOf h), execWord_append]
  rfl

/-- A word that has one of the 14 patterns is read as the operation of its address and byte. -/
theorem wordOf_of_tableConfigWord {a v : Byte} {i : Instr} (h : tableConfigWord? (a ++ v) = some i) :
    wordOf i = some (a, v) := by
  obtain ⟨ha, hv⟩ := split_word a v
  have haddr {n : Nat} (hn : a.toNat = n) : a = BitVec.ofNat 8 n := by
    rw [← hn, BitVec.ofNat_toNat, BitVec.setWidth_eq]
  simp only [tableConfigWord?, ha, hv] at h
  clear ha hv
  split at h
  case h_15 => cases h
  all_goals
    rename_i hn
    obtain rfl := haddr hn
    clear hn haddr
  -- the byte is one operand: FRF_WORD and BRDIV
  case h_1 | h_2 | h_3 | h_11 | h_12 => cases h; rfl
  -- the byte is two operands: PA_STAGE and OUTPUT_POWER
  case h_13 =>
    cases h
    revert v
    decide
  -- the whole byte is fixed
  case h_4 | h_5 | h_6 | h_8 | h_9 =>
    obtain ⟨rfl, hi⟩ := Option.ite_none_right_eq_some.mp h
    cases hi
    rfl
  -- part of the byte is fixed, the rest is the operand: FIFO_THRESHOLD, SYNC_SIZE_FIELD, OCP_TRIM_CFG
  case h_7 | h_10 | h_14 =>
    obtain ⟨hfixed, hi⟩ := Option.ite_none_right_eq_some.mp h
    cases hi
    clear h
    revert v
    decide

/-! ### One write of a byte (R143, R53) -/

/-- R7(b): no two labels have one address. -/
theorem addrOf_injective {p : Params} (hwf : p.wf = true) : Function.Injective p.addrOf := by
  intro l m h
  have hplace : p.addr.toList[l.code.val]'(by simp) = p.addr.toList[m.code.val]'(by simp) := by
    simpa [Params.addrOf] using h
  have hcode : l.code.val = m.code.val :=
    ((wf_iff_wellFormed p).mp hwf).addr_nodup.getElem_inj_iff.mp hplace
  exact Option.some.inj (by rw [← ofCode_code l, hcode, ofCode_code])

/-- R143: the label a failed write is reported under is the one whose address it is. -/
theorem reportedLabel_addrOf {p : Params} (hwf : p.wf = true) (l : Label) : p.reportedLabel (p.addrOf l) = l := by
  unfold Params.reportedLabel Params.labelAt?
  cases hfind : Label.all.find? (fun m => p.addrOf m == p.addrOf l) with
  | none =>
    have hmem : l ∈ Label.all := List.mem_of_getElem? (ofCode_code l)
    exact absurd (BEq.rfl (a := p.addrOf l)) (List.find?_eq_none.mp hfind l hmem)
  | some m => exact addrOf_injective hwf (by simpa using List.find?_some hfind)

/-- An operation's events followed by the abort path (R157). -/
theorem abort_abortsWith {s u : State} {events : List Event} (h : OnlyTraced s u events) (e : FatalError) :
    AbortsWith s (u.abort e) e (events ++ releaseEvents s) := by
  obtain ⟨answers, drawn, dev, rfl⟩ := exists_eq_of_onlyTraced h
  rw [AbortsWith, abort_eq]
  simp [releaseEvents]

/-- Where the ideal device is not held, the abort path leaves it as it is (R197, log entry 11). -/
theorem abort_sameDevice {s : State} (h : s.owned = false ∨ s.env = .unconstrained) (e : FatalError) :
    SameDevice s (s.abort e) := fun x => by
  simp [State.devRead, abort_dev, abort_devEpoch, deviceAfterError_of_not_held h]

/-- R53: an Ok write is read back from the ideal device. -/
theorem wrregTxn_devRead_same {s : State} (hi : s.env = .ideal) (hok : s.nextDraw.ok = true) (a v : Byte) :
    (s.wrregTxn a v).devRead a.toNat = v := by
  simp [State.devRead, State.devAfterWrite, hi, hok]

/-- R52, R53: a write, answered Ok or Err, touches no other register, and none of the unconstrained environment. -/
theorem wrregTxn_devRead_frame {s : State} {a : Byte} {x : Nat} (h : x ≠ a.toNat ∨ s.env = .unconstrained)
    (v : Byte) : (s.wrregTxn a v).devRead x = s.devRead x := by
  unfold State.devRead
  rw [wrregTxn_dev, wrregTxn_devEpoch, State.devAfterWrite]
  cases henv : s.env with
  | ideal =>
    have hne : x ≠ a.toNat := h.resolve_right (by simp [henv])
    simp only [memory_read_write_of_ne s.dev _ hne]
  | unconstrained => rfl

/-- R143, R53: WRREG writes one byte or aborts. -/
theorem memWrite_writesByte (s : State) (a v : Byte) :
    WritesByte s (s.memWrite (s.params.reportedLabel a) a v) a v := by
  have htxn := wrregTxn_onlyTraced s a v
  rw [WritesByte, ← nextDraw_eq, memWrite_eq]
  refine ⟨fun hok => ?_, fun herr => ?_⟩
  · rw [nextAnswer_of_ok hok] at htxn
    rw [if_pos hok]
    exact ⟨htxn, fun hi => wrregTxn_devRead_same hi hok a v, fun hu x => wrregTxn_devRead_frame (.inr hu) v,
      fun x hx => wrregTxn_devRead_frame (.inl hx) v⟩
  · rw [nextAnswer_of_err herr] at htxn
    rw [if_neg (by simp [herr])]
    have hkept (h : s.owned = false ∨ s.env = .unconstrained) :
        SameDevice (s.wrregTxn a v) ((s.wrregTxn a v).abort (.writeFailed (s.params.reportedLabel a))) :=
      abort_sameDevice (s := s.wrregTxn a v) h _
    exact ⟨_, abort_abortsWith htxn _, fun hwf l hl => hl ▸ reportedLabel_addrOf hwf l,
      fun hu x => (hkept (.inr hu) x).trans (wrregTxn_devRead_frame (.inr hu) v),
      fun ho x hx => (hkept (.inl ho) x).trans (wrregTxn_devRead_frame (.inl hx) v)⟩

/-- Settles O31: a word is the WRREG of its address and byte, whether it is one of the 14 or not. -/
theorem configWordsWrite : Obligations.ConfigWordsWrite := by
  refine fun s => ⟨fun i a v hword => ⟨?_, _, exec_of_wordOf hword s, memWrite_writesByte s a v⟩,
    fun a v => ⟨decodeConfigWord (a ++ v), rfl, ?_⟩⟩
  · rw [← encodeRequest_of_wordOf hword]
    exact requestRoundTrip i (wellFormed_of_wordOf hword)
  · obtain ⟨ha, hv⟩ := split_word a v
    unfold decodeConfigWord
    cases htable : tableConfigWord? (a ++ v) with
    | none => rw [Option.getD_none, ha, hv]
    | some i => exact exec_of_wordOf (wordOf_of_tableConfigWord htable) s

/-! ### Command words (R67) -/

/-- The command word as a number: bit 4, with diag in bit 1 and dry in bit 0. -/
theorem commandWord_toNat (diag dry : Bool) :
    (commandWord diag dry).toNat = 0x10 + (if diag then 2 else 0) + (if dry then 1 else 0) := by
  cases diag <;> cases dry <;> rfl

/-- A word with the fixed bits of R67 is the command word of its two flags. -/
theorem eq_commandWord (w : Byte) (h : w.extractLsb' 2 6 = 0b000100#6) :
    w = commandWord (w.getLsbD 1) (w.getLsbD 0) := by
  revert w
  decide

/-- The command port reads exactly the command words of RUN. -/
theorem decodeCommand_eq_ok_iff {w : Byte} {i : Instr} :
    decodeCommand w = .ok i ↔ ∃ diag dry, i = .run diag dry ∧ w = commandWord diag dry := by
  constructor
  · intro h
    unfold decodeCommand at h
    split at h
    · next hw => exact ⟨_, _, (Except.ok.inj h).symm, eq_commandWord w hw⟩
    · cases h
  · rintro ⟨diag, dry, rfl, rfl⟩
    exact EncodeRoundTrip.run diag dry rfl

/-- Settles O11: a word is determined by its number. -/
theorem commandWordsAreRun : Obligations.CommandWordsAreRun := fun w i => by
  have hnumber (diag dry : Bool) : w = commandWord diag dry ↔
      w.toNat = 0x10 + (if diag then 2 else 0) + (if dry then 1 else 0) := by
    rw [← BitVec.toNat_inj, commandWord_toNat]
  simp only [← hnumber]
  exact decodeCommand_eq_ok_iff

/-- Settles O12, by decoding each of the words. -/
theorem specWordsDecode : Obligations.SpecWordsDecode := by
  unfold Obligations.SpecWordsDecode
  decide

/-! ### Refused requests (R65(e), R148) -/

/-- A request that stands for no operation leaves the block as it is. -/
theorem stepRequest_of_decode_error {s : State} {r : Request} {e : DecodeError} (hr : r ≠ .reset)
    (h : decodeRequest r = .error e) : s.stepRequest r = .next s := by
  rw [State.stepRequest, if_neg hr, h]
  rfl

/-- R67, R148: a command word that is not RUN's, or that comes outside Idle, leaves the block as it is. -/
theorem stepRequest_command_refused {s : State} {w : Byte}
    (h : w.toNat < 0x10 ∨ 0x13 < w.toNat ∨ s.state ≠ .idle) : s.stepRequest (.command w) = .next s := by
  rcases stepRequest_command s w with ⟨hidle, -⟩ | hrefused
  · cases hdecode : decodeRequest (.command w) with
    | error e => exact stepRequest_of_decode_error (by simp) hdecode
    | ok i =>
      obtain ⟨diag, dry, -, hw⟩ := (commandWordsAreRun w i).mp hdecode
      have hrange : 0x10 ≤ w.toNat ∧ w.toNat ≤ 0x13 := by cases diag <;> cases dry <;> simp [hw]
      have hbusy : s.state ≠ .idle := (h.resolve_left (by omega)).resolve_left (by omega)
      exact absurd hidle hbusy
  · exact hrefused

/-- Settles O15: the step takes the request off the port, and the request is refused without effect. -/
theorem refusedCommandChangesNothing : Obligations.RefusedCommandChangesNothing := fun s hwf =>
  ⟨fun w hport hrefused => step_eq_next_iff.mpr
      ⟨hwf, .inr ⟨_, hport, stepRequest_command_refused (s := { s with port := none }) hrefused⟩⟩,
    fun bytes e hport herror => step_eq_next_iff.mpr
      ⟨hwf, .inr ⟨_, hport, stepRequest_of_decode_error (by simp) herror⟩⟩⟩

end Sys2Proof
end

section
/-!
PROOFS. The bitfield model (spec/41_bitfield_model.md): fields and their names, the bits of a register that its fields
use (R85), FIELD_VALUE and FIELD_INSERT (R81, R83), DECODE (R80) and its inverse (R84), and the bytes of CFGTABLE under
every LAYOUT (R92 to R99).
-/

namespace Sys2Proof

open Machine Safety Laws

/-! ### The element a list holds under a key -/

theorem find?_eq_some_of_unique {α : Type} {xs : List α} {p : α → Bool} {x : α} (hx : x ∈ xs) (hp : p x = true)
    (hunique : ∀ y ∈ xs, p y = true → y = x) : xs.find? p = some x := by
  cases hfind : xs.find? p with
  | none => exact absurd hp (List.find?_eq_none.mp hfind x hx)
  | some y => rw [hunique y (List.mem_of_find?_eq_some hfind) (List.find?_some hfind)]

theorem mem_of_lookup_eq_some {α β : Type} [BEq α] [LawfulBEq α] {ps : List (α × β)} {k : α} {v : β}
    (h : ps.lookup k = some v) : (k, v) ∈ ps := by
  obtain ⟨before, after, rfl, -⟩ := List.lookup_eq_some_iff.mp h
  simp

theorem lookup_eq_some_of_mem {α β : Type} [BEq α] [LawfulBEq α] {ps : List (α × β)} {k : α} {v : β}
    (hnodup : (ps.map Prod.fst).Nodup) (h : (k, v) ∈ ps) : ps.lookup k = some v := by
  cases hlookup : ps.lookup k with
  | none => exact absurd (List.lookup_eq_none_iff.mp hlookup _ h) (by simp)
  | some w => rw [(Prod.mk.inj (List.inj_on_of_nodup_map hnodup (mem_of_lookup_eq_some hlookup) h rfl)).2]

theorem mapM_map_eq_some {α β γ : Type} {f : β → Option γ} {g : α → β} {h : α → γ} {xs : List α}
    (heq : ∀ x ∈ xs, f (g x) = some (h x)) : (xs.map g).mapM f = some (xs.map h) := by
  induction xs with
  | nil => rfl
  | cons x xs ih =>
    obtain ⟨hx, hxs⟩ := List.forall_mem_cons.mp heq
    simp [List.mapM_cons, hx, ih hxs]

/-! ### The fields of a register (R7(c), R19) -/

/-- The field name a byte stands for: the 56 of the default LAYOUT in order, then the numbered ones (log entry 3). -/
def FieldName.ofCode (c : Byte) : FieldName :=
  ((defaultLayout.toList.flatten.map FieldDef.name)[c.toNat]?).getD (.other (Fin.ofNat 200 (c.toNat - 56)))

theorem fieldName_ofCode_code : Function.LeftInverse FieldName.ofCode FieldName.code := by
  intro f
  cases f with
  | other n =>
    have hcode : (FieldName.other n).code.toNat = 56 + n.val := by
      simp only [FieldName.code, BitVec.toNat_ofNat]
      omega
    have hlength : (defaultLayout.toList.flatten.map FieldDef.name).length = 56 := rfl
    rw [FieldName.ofCode, hcode, List.getElem?_eq_none (by omega)]
    simp [Fin.ofNat, Nat.mod_eq_of_lt n.isLt]
  | _ => rfl

/-- A field is named by one byte only (log entry 3). -/
theorem fieldName_code_injective : Function.Injective FieldName.code :=
  fieldName_ofCode_code.injective

section
variable {fields : List FieldDef}

theorem fieldsOk_range (hok : fieldsOk fields = true) {d : FieldDef} (hd : d ∈ fields) :
    d.low ≤ d.high ∧ d.high ≤ 7 := by
  obtain ⟨hrange, -, -, -⟩ := (fieldsOk_iff fields).mp hok
  exact hrange d hd

theorem fieldsOk_disjoint (hok : fieldsOk fields = true) :
    fields.Pairwise (fun d e => d.high < e.low ∨ e.high < d.low) := by
  obtain ⟨-, hdisjoint, -, -⟩ := (fieldsOk_iff fields).mp hok
  exact hdisjoint

theorem fieldsOk_names (hok : fieldsOk fields = true) : (fields.map FieldDef.name).Nodup := by
  obtain ⟨-, -, hnames, -⟩ := (fieldsOk_iff fields).mp hok
  exact hnames

theorem fieldsOk_table (hok : fieldsOk fields = true) {d : FieldDef} (hd : d ∈ fields) :
    d.table.ok = true ∧ d.table.chooserOk fields = true := by
  obtain ⟨-, -, -, htables⟩ := (fieldsOk_iff fields).mp hok
  exact htables d hd

/-- A bit lies in one field at most. -/
theorem eq_of_common_bit (hok : fieldsOk fields = true) {d e : FieldDef} (hd : d ∈ fields) (he : e ∈ fields) {i : Nat}
    (hid : d.low ≤ i ∧ i ≤ d.high) (hie : e.low ≤ i ∧ i ≤ e.high) : d = e := by
  have : Std.Symm (fun d e : FieldDef => d.high < e.low ∨ e.high < d.low) := ⟨fun _ _ => Or.symm⟩
  by_contra hne
  have := (fieldsOk_disjoint hok).forall hd he hne
  omega

theorem findField_eq_some_iff (hok : fieldsOk fields = true) {code : Byte} {d : FieldDef} :
    findField fields code = some d ↔ d ∈ fields ∧ d.name.code = code := by
  constructor
  · intro h
    exact ⟨List.mem_of_find?_eq_some h, by simpa using List.find?_some h⟩
  · rintro ⟨hd, rfl⟩
    refine find?_eq_some_of_unique hd (by simp) fun e he hcode => ?_
    exact List.inj_on_of_nodup_map (fieldsOk_names hok) he hd (fieldName_code_injective (by simpa using hcode))

theorem findField_name (hok : fieldsOk fields = true) {d : FieldDef} (hd : d ∈ fields) :
    findField fields d.name.code = some d :=
  (findField_eq_some_iff hok).mpr ⟨hd, rfl⟩

theorem findField_eq_none_iff {code : Byte} :
    findField fields code = none ↔ ∀ d ∈ fields, d.name.code ≠ code := by
  simp [findField]

theorem findField_code (name : FieldName) :
    findField fields name.code = fields.find? (fun d => d.name == name) := by
  unfold findField
  congr 1
  funext d
  rw [Bool.eq_iff_iff, beq_iff_eq, beq_iff_eq, fieldName_code_injective.eq_iff]

/-! ### The bits fields use (R60, R85) -/

theorem extractField_eq_iff {b c : Byte} {high low : Nat} (hlow : low ≤ high) :
    extractField b high low = extractField c high low ↔ ∀ i, low ≤ i ∧ i ≤ high → b.getLsbD i = c.getLsbD i := by
  constructor
  · intro h i hi
    have hbit := congrArg (fun n => n.testBit (i - low)) h
    have hin : i - low < high - low + 1 := by omega
    simpa [extractField_testBit, hin, Nat.add_sub_cancel' hi.1] using hbit
  · intro h
    refine Nat.eq_of_testBit_eq fun i => ?_
    rw [extractField_testBit, extractField_testBit]
    by_cases hi : i < high - low + 1
    · rw [h (low + i) (by omega)]
    · simp [hi]

theorem extractField_lt (raw : Byte) (d : FieldDef) : extractField raw d.high d.low < 2 ^ d.width :=
  Nat.mod_lt _ (Nat.two_pow_pos _)

/-- USED holds exactly the bits of the fields (R85). -/
theorem usedBits_getLsbD (hrange : ∀ d ∈ fields, d.low ≤ d.high) {i : Nat} (hi : i < 8) :
    (usedBits fields).getLsbD i = true ↔ ∃ d ∈ fields, d.low ≤ i ∧ i ≤ d.high := by
  induction fields with
  | nil => simp [usedBits]
  | cons d ds ih =>
    obtain ⟨hd, hds⟩ := List.forall_mem_cons.mp hrange
    change (fieldMask d.high d.low ||| usedBits ds).getLsbD i = true ↔ _
    simp [fieldMask_getLsbD hd hi, ih hds]

theorem and_not_usedBits_eq_zero_iff (hok : fieldsOk fields = true) {b : Byte} :
    b &&& ~~~usedBits fields = 0#8 ↔
      ∀ i < 8, (∀ d ∈ fields, ¬(d.low ≤ i ∧ i ≤ d.high)) → b.getLsbD i = false := by
  have hused {i : Nat} (hi : i < 8) :
      (∀ d ∈ fields, ¬(d.low ≤ i ∧ i ≤ d.high)) ↔ (usedBits fields).getLsbD i = false := by
    rw [← Bool.not_eq_true, usedBits_getLsbD (fun d hd => (fieldsOk_range hok hd).1) hi]
    push Not
    rfl
  constructor
  · intro h i hi hout
    simpa only [BitVec.getLsbD_and, BitVec.getLsbD_not, hi, (hused hi).mp hout, decide_true, Bool.not_false,
      Bool.and_true, BitVec.getLsbD_zero] using congrArg (fun c => c.getLsbD i) h
  · intro h
    refine BitVec.eq_of_getLsbD_eq fun i hi => ?_
    by_cases hu : (usedBits fields).getLsbD i = true
    · simp [hu]
    · simp [h i hi ((hused hi).mpr (by simpa using hu))]

/-- Clearing the unused bits leaves every field as it was. -/
theorem extractField_and_usedBits (hok : fieldsOk fields = true) (raw : Byte) {d : FieldDef} (hd : d ∈ fields) :
    extractField (raw &&& usedBits fields) d.high d.low = extractField raw d.high d.low := by
  obtain ⟨hlow, hhigh⟩ := fieldsOk_range hok hd
  refine (extractField_eq_iff hlow).mpr fun i hi => ?_
  have hused : (usedBits fields).getLsbD i = true :=
    (usedBits_getLsbD (fun e he => (fieldsOk_range hok he).1) (by omega)).mpr ⟨d, hd, hi⟩
  simp [hused]

/-- A byte with nothing in its unused bits is determined by its fields. -/
theorem eq_and_usedBits (hok : fieldsOk fields = true) {b raw : Byte} (hunused : b &&& ~~~usedBits fields = 0#8)
    (hfields : ∀ d ∈ fields, extractField b d.high d.low = extractField raw d.high d.low) :
    b = raw &&& usedBits fields := by
  have hlow : ∀ d ∈ fields, d.low ≤ d.high := fun d hd => (fieldsOk_range hok hd).1
  refine BitVec.eq_of_getLsbD_eq fun i hi => ?_
  by_cases hused : (usedBits fields).getLsbD i = true
  · obtain ⟨d, hd, hid⟩ := (usedBits_getLsbD hlow hi).mp hused
    simp [hused, (extractField_eq_iff (hlow d hd)).mp (hfields d hd) i hid]
  · have hout : ∀ d ∈ fields, ¬(d.low ≤ i ∧ i ≤ d.high) := fun d hd hid =>
      hused ((usedBits_getLsbD hlow hi).mpr ⟨d, hd, hid⟩)
    simp [(and_not_usedBits_eq_zero_iff hok).mp hunused i hi hout, hused]

/-! ### FIELD_INSERT (R83) -/

/-- A pair of FIELD_INSERT that is no FieldError: the register has the field, and the value fits it. -/
def Fits (fields : List FieldDef) (w : Byte × Nat) : Prop :=
  ∃ d ∈ fields, d.name.code = w.1 ∧ w.2 < 2 ^ d.width

theorem insertAll_cons (hok : fieldsOk fields = true) {d : FieldDef} (hd : d ∈ fields) {v : Nat} (hv : v < 2 ^ d.width)
    (rest : List (Byte × Nat)) (b : Byte) :
    insertAll fields ((d.name.code, v) :: rest) b = insertAll fields rest (insertField b d.high d.low v) := by
  simp [insertAll, findField_name hok hd, hv]

/-- The loop stops at a pair that does not fit. -/
theorem insertAll_cons_of_not_fits (hok : fieldsOk fields = true) {w : Byte × Nat} (hw : ¬Fits fields w)
    (rest : List (Byte × Nat)) (b : Byte) : insertAll fields (w :: rest) b = .fieldError w.1 := by
  unfold insertAll
  split
  · rfl
  · next d hfind =>
    obtain ⟨hd, hcode⟩ := (findField_eq_some_iff hok).mp hfind
    exact if_pos (not_lt.mp fun hv => hw ⟨d, hd, hcode, hv⟩)

/-- The loop passes over pairs that fit. -/
theorem insertAll_append_of_fits (hok : fieldsOk fields = true) {fits : List (Byte × Nat)}
    (hfits : ∀ w ∈ fits, Fits fields w) (rest : List (Byte × Nat)) (b : Byte) :
    ∃ c, insertAll fields (fits ++ rest) b = insertAll fields rest c := by
  induction fits generalizing b with
  | nil => exact ⟨b, rfl⟩
  | cons w fits ih =>
    obtain ⟨⟨d, hd, hcode, hv⟩, hrest⟩ := List.forall_mem_cons.mp hfits
    obtain ⟨c, hc⟩ := ih hrest (insertField b d.high d.low w.2)
    refine ⟨c, ?_⟩
    rw [List.cons_append, ← hc, ← insertAll_cons hok hd hv, hcode]

theorem insertAll_of_fits (hok : fieldsOk fields = true) {vals : List (Byte × Nat)}
    (hfits : ∀ w ∈ vals, Fits fields w) (b : Byte) : ∃ c, insertAll fields vals b = .byte c := by
  obtain ⟨c, hc⟩ := insertAll_append_of_fits hok hfits [] b
  exact ⟨c, by simpa [insertAll] using hc⟩

/-- Where the answer is a byte every pair fitted, and the first was inserted first. -/
theorem insertAll_cons_eq_byte (hok : fieldsOk fields = true) {w : Byte × Nat} {rest : List (Byte × Nat)} {b c : Byte}
    (h : insertAll fields (w :: rest) b = .byte c) :
    ∃ d ∈ fields, d.name.code = w.1 ∧ w.2 < 2 ^ d.width ∧
      insertAll fields rest (insertField b d.high d.low w.2) = .byte c := by
  by_cases hw : Fits fields w
  · obtain ⟨d, hd, hcode, hv⟩ := hw
    exact ⟨d, hd, hcode, hv, by rw [← insertAll_cons hok hd hv, hcode]; exact h⟩
  · rw [insertAll_cons_of_not_fits hok hw] at h
    cases h

theorem fits_of_insertAll_eq_byte (hok : fieldsOk fields = true) {vals : List (Byte × Nat)} {b c : Byte}
    (h : insertAll fields vals b = .byte c) : ∀ w ∈ vals, Fits fields w := by
  induction vals generalizing b with
  | nil => nofun
  | cons w rest ih =>
    obtain ⟨d, hd, hcode, hv, hrest⟩ := insertAll_cons_eq_byte hok h
    exact List.forall_mem_cons.mpr ⟨⟨d, hd, hcode, hv⟩, ih hrest⟩

/-- A bit that lies in no named field is as it was. -/
theorem insertAll_getLsbD (hok : fieldsOk fields = true) {vals : List (Byte × Nat)} {b c : Byte}
    (h : insertAll fields vals b = .byte c) {i : Nat} (hi : i < 8)
    (hout : ∀ d ∈ fields, d.low ≤ i ∧ i ≤ d.high → ∀ w ∈ vals, w.1 ≠ d.name.code) : c.getLsbD i = b.getLsbD i := by
  induction vals generalizing b with
  | nil => rw [InsertResult.byte.inj h]
  | cons w rest ih =>
    obtain ⟨d, hd, hcode, hv, hrest⟩ := insertAll_cons_eq_byte hok h
    have hnot : ¬(d.low ≤ i ∧ i ≤ d.high) := fun hid => hout d hd hid w List.mem_cons_self hcode.symm
    rw [ih hrest fun e he hie x hx => hout e he hie x (List.mem_cons_of_mem w hx),
      insertField_getLsbD b (fieldsOk_range hok hd).1 hv hi, if_neg hnot]

/-- A field that is not named keeps its value. -/
theorem insertAll_extractField_of_unnamed (hok : fieldsOk fields = true) {vals : List (Byte × Nat)} {b c : Byte}
    (h : insertAll fields vals b = .byte c) {d : FieldDef} (hd : d ∈ fields) (hout : ∀ w ∈ vals, w.1 ≠ d.name.code) :
    extractField c d.high d.low = extractField b d.high d.low := by
  obtain ⟨hlow, hhigh⟩ := fieldsOk_range hok hd
  refine (extractField_eq_iff hlow).mpr fun i hi => insertAll_getLsbD hok h (by omega) fun e he hie => ?_
  rwa [eq_of_common_bit hok he hd hie hi]

/-- A field that is named has the value given for it. -/
theorem insertAll_extractField_of_mem (hok : fieldsOk fields = true) {vals : List (Byte × Nat)} {b c : Byte}
    (h : insertAll fields vals b = .byte c) (hnodup : (vals.map Prod.fst).Nodup) {d : FieldDef} (hd : d ∈ fields)
    {v : Nat} (hmem : (d.name.code, v) ∈ vals) : extractField c d.high d.low = v := by
  induction vals generalizing b with
  | nil => cases hmem
  | cons w rest ih =>
    obtain ⟨e, he, hcode, hv, hrest⟩ := insertAll_cons_eq_byte hok h
    obtain ⟨hfresh, hnodup⟩ := List.nodup_cons.mp hnodup
    rcases List.mem_cons.mp hmem with rfl | hmem
    · obtain rfl := List.inj_on_of_nodup_map (fieldsOk_names hok) he hd (fieldName_code_injective hcode)
      obtain ⟨hlow, hhigh⟩ := fieldsOk_range hok hd
      rw [insertAll_extractField_of_unnamed hok hrest hd fun x hx heq => hfresh (List.mem_map.mpr ⟨x, hx, heq⟩),
        extractField_insertField b hlow hhigh hv]
    · exact ih hrest hnodup hmem

/-- From the byte 0, the unused bits stay 0. -/
theorem insertAll_unused (hok : fieldsOk fields = true) {vals : List (Byte × Nat)} {c : Byte}
    (h : insertAll fields vals 0#8 = .byte c) : c &&& ~~~usedBits fields = 0#8 := by
  refine (and_not_usedBits_eq_zero_iff hok).mpr fun i hi hout => ?_
  rw [insertAll_getLsbD hok h hi fun d hd hid => absurd hid (hout d hd)]
  simp

@[simp] theorem extractField_zero (high low : Nat) : extractField 0#8 high low = 0 := by
  simp [extractField]

end

/-! ### DECODE, FIELD_VALUE and FIELD_INSERT as operations (R80 to R83) -/

theorem exec_decode (c raw : Byte) (s : State) :
    exec (.decode c raw) s = .next { s with ret := some (decodeReturn s.params c raw) } := rfl

theorem exec_fieldValue (c f raw : Byte) (s : State) :
    exec (.fieldValue c f raw) s = .next { s with ret := some (fieldValueReturn s.params c f raw) } := rfl

theorem exec_fieldInsert (c : Byte) (vals : List (Byte × BitVec 16)) (s : State) :
    exec (.fieldInsert c vals) s = .next { s with ret := some (fieldInsertReturn s.params c vals) } := rfl

/-- R110, R176: the labels before the first unknown one do not matter. -/
theorem resolveLabels_of_unknown {known : List Byte} {c : Byte} (hknown : ∀ x ∈ known, (Label.ofCode? x).isSome = true)
    (hc : Label.ofCode? c = none) (others : List Byte) : resolveLabels (known ++ c :: others) = .error c := by
  induction known with
  | nil => simp [resolveLabels, hc]
  | cons x known ih =>
    obtain ⟨hx, hknown⟩ := List.forall_mem_cons.mp hknown
    obtain ⟨l, hl⟩ := Option.isSome_iff_exists.mp hx
    simp [resolveLabels, hl, ih hknown]

/-- Settles O6: each of the operations looks its label up first. -/
theorem unknownLabelIsReturned : Obligations.UnknownLabelIsReturned := by
  intro s c hc
  refine ⟨fun raw => ?_, fun f raw => ?_, fun vals => ?_, fun known others hknown => ?_⟩
  · simp [exec_decode, decodeReturn, hc]
  · simp [exec_fieldValue, fieldValueReturn, hc]
  · simp [exec_fieldInsert, fieldInsertReturn, hc]
  · change execInspect (known ++ c :: others) s = _
    rw [execInspect, resolveLabels_of_unknown hknown hc]

/-- Settles O7: the names of a register's fields differ, so the field found is the one that has the name. -/
theorem fieldValueIsTheSlice : Obligations.FieldValueIsTheSlice := by
  intro s c f raw hwf
  refine ⟨fun l hl => ⟨fun d hd hcode => ?_, fun hnone => ?_⟩, fun hc => ?_⟩
  · have hfind := (findField_eq_some_iff (((wf_iff_wellFormed _).mp hwf).fields_ok l)).mpr ⟨hd, hcode⟩
    simp [exec_fieldValue, fieldValueReturn, hl, fieldValue, hfind, extractField]
  · simp [exec_fieldValue, fieldValueReturn, hl, fieldValue, findField_eq_none_iff.mpr hnone]
  · obtain ⟨-, hvalue, -, -⟩ := unknownLabelIsReturned s c hc
    exact hvalue f raw

section
variable {c : Byte} {l : Label} {vals : List (Byte × BitVec 16)}

/-- R83: on a modelled register FIELD_INSERT returns the byte its loop makes. -/
theorem fieldInsertReturn_of_byte (p : Params) (hl : Label.ofCode? c = some l) {b : Byte}
    (h : insertAll (p.fieldsOf l) (vals.map fun w => (w.1, w.2.toNat)) 0#8 = .byte b) :
    fieldInsertReturn p c vals = .byte b := by
  simp only [fieldInsertReturn, hl]
  split
  · next hbyte => rw [InsertResult.byte.inj (hbyte.symm.trans h)]
  · next herror => cases herror.symm.trans h

/-- R83: or the FieldError it stops at. -/
theorem fieldInsertReturn_of_fieldError (p : Params) (hl : Label.ofCode? c = some l) {f : Byte}
    (h : insertAll (p.fieldsOf l) (vals.map fun w => (w.1, w.2.toNat)) 0#8 = .fieldError f) :
    fieldInsertReturn p c vals = .fieldError c f := by
  simp only [fieldInsertReturn, hl]
  split
  · next hbyte => cases hbyte.symm.trans h
  · next herror => rw [InsertResult.fieldError.inj (herror.symm.trans h)]

end

theorem fits_of_pairs {fields : List FieldDef} {vals : List (Byte × BitVec 16)}
    (hfits : ∀ w ∈ vals, ∃ d ∈ fields, d.name.code = w.1 ∧ w.2.toNat < 2 ^ (d.high - d.low + 1)) :
    ∀ w ∈ vals.map (fun w => (w.1, w.2.toNat)), Fits fields w :=
  List.forall_mem_map.mpr hfits

/-- Settles O8: pairs that fit give a byte, its fields and unused bits known; the loop stops at the first other. -/
theorem fieldInsertComposes : Obligations.FieldInsertComposes := by
  intro s c vals hwf
  refine ⟨fun l hl => ?_, fun hc => ?_⟩
  · have hok := ((wf_iff_wellFormed _).mp hwf).fields_ok l
    rw [exec_fieldInsert]
    constructor
    · intro hnodup hfits
      obtain ⟨b, hb⟩ := insertAll_of_fits hok (fits_of_pairs hfits) 0#8
      refine ⟨b, by rw [fieldInsertReturn_of_byte _ hl hb], fun d hd => ?_, insertAll_unused hok hb⟩
      cases hlookup : vals.lookup d.name.code with
      | none =>
        have hout : ∀ w ∈ vals.map (fun w => (w.1, w.2.toNat)), w.1 ≠ d.name.code :=
          List.forall_mem_map.mpr fun w hw => (bne_iff_ne.mp (List.lookup_eq_none_iff.mp hlookup w hw)).symm
        rw [insertAll_extractField_of_unnamed hok hb hd hout, extractField_zero]
        rfl
      | some v =>
        exact insertAll_extractField_of_mem hok hb (by rwa [List.map_map]) hd
          (List.mem_map_of_mem (mem_of_lookup_eq_some hlookup))
    · rintro fits f v others rfl hfits hbad
      have hnot : ¬Fits (s.params.fieldsOf l) (f, v.toNat) := fun ⟨d, hd, hcode, hv⟩ =>
        absurd hv (not_lt.mpr (hbad d hd hcode))
      obtain ⟨b, hb⟩ := insertAll_append_of_fits hok (fits_of_pairs hfits)
        (((f, v) :: others).map fun w => (w.1, w.2.toNat)) 0#8
      rw [← List.map_append, List.map_cons, insertAll_cons_of_not_fits hok hnot] at hb
      rw [fieldInsertReturn_of_fieldError _ hl hb]
  · obtain ⟨-, -, hinsert, -⟩ := unknownLabelIsReturned s c hc
    exact hinsert vals

/-! ### FIELD_INSERT with the fields by name -/

section
variable {fields : List FieldDef} {vals : List (FieldName × Nat)} {b : Byte}

theorem fieldInsert_eq_insertAll (fields : List FieldDef) (vals : List (FieldName × Nat)) :
    fieldInsert fields vals = insertAll fields (vals.map fun v => (v.1.code, v.2)) 0#8 := rfl

/-- R83: where FIELD_INSERT answers a byte, the register has every field named. -/
theorem exists_field_of_fieldInsert (hok : fieldsOk fields = true) (h : fieldInsert fields vals = .byte b)
    {v : FieldName × Nat} (hv : v ∈ vals) : ∃ d ∈ fields, d.name = v.1 := by
  rw [fieldInsert_eq_insertAll] at h
  obtain ⟨d, hd, hcode, -⟩ := fits_of_insertAll_eq_byte hok h _ (List.mem_map_of_mem hv)
  exact ⟨d, hd, fieldName_code_injective hcode⟩

/-- R83: each field named holds the value given for it. -/
theorem fieldInsert_named (hok : fieldsOk fields = true) (h : fieldInsert fields vals = .byte b)
    (hnodup : (vals.map Prod.fst).Nodup) {d : FieldDef} (hd : d ∈ fields) {v : Nat} (hmem : (d.name, v) ∈ vals) :
    extractField b d.high d.low = v := by
  rw [fieldInsert_eq_insertAll] at h
  have hcodes : ((vals.map fun v => (v.1.code, v.2)).map Prod.fst).Nodup := by
    have hmap := hnodup.map fieldName_code_injective
    rw [List.map_map] at hmap ⊢
    exact hmap
  exact insertAll_extractField_of_mem hok h hcodes hd (List.mem_map_of_mem hmem)

/-- R83: every other field is 0. -/
theorem fieldInsert_unnamed (hok : fieldsOk fields = true) (h : fieldInsert fields vals = .byte b) {d : FieldDef}
    (hd : d ∈ fields) (hout : ∀ v ∈ vals, d.name ≠ v.1) : extractField b d.high d.low = 0 := by
  rw [fieldInsert_eq_insertAll] at h
  rw [insertAll_extractField_of_unnamed hok h hd
    (List.forall_mem_map.mpr fun v hv heq => hout v hv (fieldName_code_injective heq.symm)), extractField_zero]

end

/-! ### CFGTABLE under every LAYOUT (R92 to R101) -/

theorem extractLsb'_eq_ofNat_div {n : Nat} (x : BitVec n) (start len : Nat) :
    x.extractLsb' start len = BitVec.ofNat len (x.toNat / 2 ^ start) := by
  rw [BitVec.extractLsb', Nat.shiftRight_eq_div_pow]

/-- The three bits of PA_STAGE, Pa0On the most significant (R99). -/
theorem paEntry_target (p : Params) :
    paEntry p p.target = ⟨.paLevel, fieldInsert (p.fieldsOf .paLevel)
      [(.pa0On, p.paStage.toNat / 4 % 2), (.pa1On, p.paStage.toNat / 2 % 2), (.pa2On, p.paStage.toNat % 2),
       (.outputPower, p.outputPower.toNat)]⟩ := by
  simp [paEntry, Params.target, extractLsb'_eq_ofNat_div]

/-- Each of the six registers made of fields has an entry with TARGET's values (R93 to R99). -/
theorem targetFields_mem_cfgTable (p : Params) {l : Label} {values : List (FieldName × Nat)}
    (h : (l, values) ∈ targetFields p) : ⟨l, fieldInsert (p.fieldsOf l) values⟩ ∈ p.cfgTable := by
  simp only [targetFields, List.mem_cons, Prod.mk.injEq, List.not_mem_nil, or_false] at h
  rcases h with ⟨rfl, rfl⟩ | ⟨rfl, rfl⟩ | ⟨rfl, rfl⟩ | ⟨rfl, rfl⟩ | ⟨rfl, rfl⟩ | ⟨rfl, rfl⟩
  · exact List.mem_of_getElem? (i := 3) rfl
  · exact List.mem_of_getElem? (i := 4) rfl
  · exact List.mem_of_getElem? (i := 6) rfl
  · exact List.mem_of_getElem? (i := 9) rfl
  · exact paEntry_target p ▸ List.mem_of_getElem? (i := 12) rfl
  · exact List.mem_of_getElem? (i := 13) rfl

/-- TARGET names no field twice (R90). -/
theorem targetFields_nodup (p : Params) {l : Label} {values : List (FieldName × Nat)}
    (h : (l, values) ∈ targetFields p) : (values.map Prod.fst).Nodup := by
  simp only [targetFields, List.mem_cons, Prod.mk.injEq, List.not_mem_nil, or_false] at h
  rcases h with ⟨-, rfl⟩ | ⟨-, rfl⟩ | ⟨-, rfl⟩ | ⟨-, rfl⟩ | ⟨-, rfl⟩ | ⟨-, rfl⟩ <;> simp

/-- The bytes of wide values are slices of TARGET's (R62, R92, R97, R98). -/
theorem wholeBytes_eq (p : Params) :
    wholeBytes p =
      [(.frfMsb, p.target.frfWord.extractLsb' 16 8), (.frfMid, p.target.frfWord.extractLsb' 8 8),
       (.frfLsb, p.target.frfWord.extractLsb' 0 8), (.payloadLength, 0#8),
       (.preambleMsb, p.target.preamble.extractLsb' 8 8), (.preambleLsb, p.target.preamble.extractLsb' 0 8),
       (.bitrateMsb, p.target.brdiv.extractLsb' 8 8), (.bitrateLsb, p.target.brdiv.extractLsb' 0 8)] := by
  have hmsb : BitVec.ofNat 8 (p.brdiv % 65536 / 256) = BitVec.ofNat 8 (p.brdiv / 256) := by
    apply BitVec.eq_of_toNat_eq
    simp only [BitVec.toNat_ofNat]
    omega
  have hlsb : BitVec.ofNat 8 (p.brdiv % 65536) = BitVec.ofNat 8 p.brdiv := by
    apply BitVec.eq_of_toNat_eq
    simp only [BitVec.toNat_ofNat]
    omega
  simp [wholeBytes, Params.target, extractLsb'_eq_ofNat_div, hmsb, hlsb]

/-- Each byte of a wide value, and each whole register, is an entry (R92, R95, R97, R98). -/
theorem wholeBytes_mem_cfgTable (p : Params) {l : Label} {b : Byte} (h : (l, b) ∈ wholeBytes p) :
    ⟨l, .byte b⟩ ∈ p.cfgTable := by
  rw [wholeBytes_eq] at h
  simp only [List.mem_cons, Prod.mk.injEq, List.not_mem_nil, or_false] at h
  rcases h with ⟨rfl, rfl⟩ | ⟨rfl, rfl⟩ | ⟨rfl, rfl⟩ | ⟨rfl, rfl⟩ | ⟨rfl, rfl⟩ | ⟨rfl, rfl⟩ | ⟨rfl, rfl⟩ | ⟨rfl, rfl⟩
  · exact List.mem_of_getElem? (i := 0) rfl
  · exact List.mem_of_getElem? (i := 1) rfl
  · exact List.mem_of_getElem? (i := 2) rfl
  · exact List.mem_of_getElem? (i := 5) rfl
  · exact List.mem_of_getElem? (i := 7) rfl
  · exact List.mem_of_getElem? (i := 8) rfl
  · exact List.mem_of_getElem? (i := 10) rfl
  · exact List.mem_of_getElem? (i := 11) rfl

theorem mem_cfgWords_iff {p : Params} (hwf : p.wf = true) {l : Label} {b : Byte} :
    (l, b) ∈ cfgWords p ↔ ⟨l, .byte b⟩ ∈ p.cfgTable := by
  simp [cfgTable_eq_map_cfgWords hwf]

/-- Settles O59: the entries of CFGTABLE, and R83 for those that FIELD_INSERT makes. -/
theorem configBytesHoldTheirFields : Obligations.ConfigBytesHoldTheirFields := by
  intro p hwf
  have hlabels : p.cfgTable.map CfgEntry.label = (cfgWords p).map Prod.fst := by
    rw [cfgTable_eq_map_cfgWords hwf, List.map_map]
    rfl
  refine ⟨hlabels.symm, fun w hw => (mem_cfgWords_iff hwf).mpr (wholeBytes_mem_cfgTable p hw), fun l values hl => ?_⟩
  have hok := ((wf_iff_wellFormed p).mp hwf).fields_ok l
  have hentry := targetFields_mem_cfgTable p hl
  rw [cfgTable_eq_map_cfgWords hwf] at hentry
  obtain ⟨⟨l', b⟩, hmem, heq⟩ := List.mem_map.mp hentry
  obtain ⟨rfl, hbyte⟩ := CfgEntry.mk.inj heq
  have hinsert := hbyte.symm
  refine ⟨b, hmem, fun ⟨name, v⟩ hv => ?_, fun d hd => fieldInsert_unnamed hok hinsert hd, insertAll_unused hok hinsert⟩
  obtain ⟨d, hd, rfl⟩ := exists_field_of_fieldInsert hok hinsert hv
  exact ⟨d, hd, rfl, fieldInsert_named hok hinsert (targetFields_nodup p hl) hd hv⟩

/-! ### DECODE (R80) -/

section
variable {fields : List FieldDef}

/-- DECODE reads the fields in descending order of their bits. -/
theorem sortByKey_descending (hok : fieldsOk fields = true) :
    (sortByKey (fun d : FieldDef => 255 - d.high) fields).Pairwise (fun d e => e.high < d.high) := by
  have hperm := sortByKey_perm (fun d : FieldDef => 255 - d.high) fields
  have hdisjoint := (hperm.pairwise_iff Or.symm).mpr (fieldsOk_disjoint hok)
  refine (hdisjoint.and (sortByKey_sorted _ fields)).imp_of_mem fun hd he h => ?_
  have := fieldsOk_range hok (hperm.mem_iff.mp hd)
  have := fieldsOk_range hok (hperm.mem_iff.mp he)
  omega

/-- The reading of a field, by the form of its table (R19, R21, R80). -/
theorem readField_eq (fields : List FieldDef) (raw : Byte) (d : FieldDef) :
    readField fields raw d =
      match d.table with
      | .number => .number (extractField raw d.high d.low)
      | .fixed rows => readingIn rows (extractField raw d.high d.low)
      | .chosenBy name tables otherwise =>
        readingIn
          (match fields.find? (fun e => e.name == name) with
          | some e => (tables.lookup (extractField raw e.high e.low)).getD otherwise
          | none => otherwise)
          (extractField raw d.high d.low) := by
  unfold readField
  cases htable : d.table with
  | number => rfl
  | fixed rows => rfl
  | chosenBy name tables otherwise =>
    rw [selectorOf, findField_code]
    dsimp only
    cases fields.find? (fun e => e.name == name) <;> rfl

/-- Settles O5: DECODE's entries are those of the sorted fields, and only the answer is written. -/
theorem decodeReadsEveryField : Obligations.DecodeReadsEveryField := by
  intro s c raw hwf
  refine ⟨fun l hl => ?_, fun hc => ?_⟩
  · have hok := ((wf_iff_wellFormed _).mp hwf).fields_ok l
    refine ⟨_, sortByKey_perm _ _, sortByKey_descending hok, ?_⟩
    rw [exec_decode, decodeReturn, hl]
    exact congrArg (fun m => Host.Outcome.next { s with ret := some (.mapping m) })
      (List.map_congr_left fun d _ => congrArg (Prod.mk d.name) (readField_eq _ raw d))
  · obtain ⟨hdecode, -, -, -⟩ := unknownLabelIsReturned s c hc
    exact hdecode raw

/-! ### DECODE and its inverse (R84, R85) -/

/-- A reading depends on the fields of the byte alone. -/
theorem decodeFields_congr {b c : Byte}
    (h : ∀ d ∈ fields, extractField b d.high d.low = extractField c d.high d.low) :
    decodeFields fields b = decodeFields fields c := by
  refine List.map_congr_left fun d hd => ?_
  have hd := (sortByKey_perm _ fields).mem_iff.mp hd
  have hselector : selectorOf fields b d.table = selectorOf fields c d.table := by
    cases htable : d.table with
    | number => rfl
    | fixed rows => rfl
    | chosenBy name tables otherwise =>
      simp only [selectorOf]
      exact Option.map_congr fun e he => h e (List.mem_of_find?_eq_some he)
  simp only [readField, h d hd, hselector]

/-- R84: every table a field can have maps each raw value once and gives no label twice. -/
theorem rows_nodup {t : DecodeTable} (hok : t.ok = true) {selector : Option Nat} {rows : List (Nat × ValueLabel)}
    (h : t.rows selector = some rows) : (rows.map Prod.fst).Nodup ∧ (rows.map Prod.snd).Nodup := by
  suffices hrows : rowsOk rows = true by simpa [rowsOk] using hrows
  cases t with
  | number => cases h
  | fixed rows' => exact Option.some.inj h ▸ hok
  | chosenBy name tables otherwise =>
    obtain ⟨htables, hotherwise⟩ := Bool.and_eq_true_iff.mp hok
    cases selector with
    | none => exact Option.some.inj h ▸ hotherwise
    | some v =>
      obtain rfl := Option.some.inj h
      cases hlookup : tables.lookup v with
      | none => exact hotherwise
      | some rows => exact List.all_eq_true.mp htables _ (mem_of_lookup_eq_some hlookup)

/-- R84: encoding a reading gives the raw value back. -/
theorem encodeReading_readField {d : FieldDef} (hok : d.table.ok = true) (raw : Byte) :
    encodeReading d.table (selectorOf fields raw d.table) (readField fields raw d)
      = some (extractField raw d.high d.low) := by
  simp only [readField]
  cases hrows : d.table.rows (selectorOf fields raw d.table) with
  | none => rfl
  | some rows =>
    obtain ⟨-, hlabels⟩ := rows_nodup hok hrows
    cases hlookup : rows.lookup (extractField raw d.high d.low) with
    | none => simp [hlookup, encodeReading]
    | some label =>
      have hmem := mem_of_lookup_eq_some hlookup
      have hfind : rows.find? (fun row => row.2 == label) = some (extractField raw d.high d.low, label) :=
        find?_eq_some_of_unique hmem (by simp) fun row hrow hlabel =>
          List.inj_on_of_nodup_map hlabels hrow hmem (by simpa using hlabel)
      simp [hlookup, encodeReading, hrows, hfind]

theorem mem_decodeFields {raw : Byte} {d : FieldDef} (hd : d ∈ fields) :
    (d.name, readField fields raw d) ∈ decodeFields fields raw :=
  List.mem_map_of_mem ((sortByKey_perm _ fields).mem_iff.mpr hd)

theorem decodeFields_names_nodup (hok : fieldsOk fields = true) (raw : Byte) :
    ((decodeFields fields raw).map Prod.fst).Nodup := by
  rw [decodeFields, List.map_map]
  exact ((sortByKey_perm _ fields).map _).nodup_iff.mpr (fieldsOk_names hok)

/-- R84: the mapping DECODE gives chooses the table that the byte chose. -/
theorem selectorIn_decodeFields (hok : fieldsOk fields = true) (raw : Byte) {t : DecodeTable}
    (ht : t.chooserOk fields = true) : selectorIn fields (decodeFields fields raw) t = selectorOf fields raw t := by
  cases t with
  | number => rfl
  | fixed rows => rfl
  | chosenBy name tables otherwise =>
    cases hfind : findField fields name.code with
    | none => simp [selectorIn, selectorOf, hfind]
    | some e =>
      obtain ⟨he, hname⟩ := (findField_eq_some_iff hok).mp hfind
      obtain rfl := fieldName_code_injective hname
      have hlookup : (decodeFields fields raw).lookup e.name = some (readField fields raw e) :=
        lookup_eq_some_of_mem (decodeFields_names_nodup hok raw) (mem_decodeFields he)
      have hselector : selectorOf fields raw e.table = none := by
        simp only [DecodeTable.chooserOk, hfind] at ht
        cases htable : e.table with
        | number => rfl
        | fixed rows => rfl
        | chosenBy _ _ _ => simp [htable] at ht
      have hencode := encodeReading_readField (fields := fields) (fieldsOk_table hok he).1 raw
      rw [hselector] at hencode
      simp [selectorIn, selectorOf, hfind, hlookup, hencode]

/-- R84: each reading in DECODE's mapping determines the value of its field. -/
theorem encodeAttr_decodeFields (hok : fieldsOk fields = true) (raw : Byte) {d : FieldDef} (hd : d ∈ fields) :
    encodeAttr fields (decodeFields fields raw) (d.name, readField fields raw d)
      = some (d.name, extractField raw d.high d.low) := by
  obtain ⟨htable, hchooser⟩ := fieldsOk_table hok hd
  simp [encodeAttr, findField_name hok hd, selectorIn_decodeFields hok raw hchooser, encodeReading_readField htable]

/-- The value of each field of a byte, in DECODE's order. -/
def fieldValues (fields : List FieldDef) (raw : Byte) : List (FieldName × Nat) :=
  (sortByKey (fun d : FieldDef => 255 - d.high) fields).map fun d => (d.name, extractField raw d.high d.low)

theorem encodeMapping_decodeFields (hok : fieldsOk fields = true) (raw : Byte) :
    encodeMapping fields (decodeFields fields raw) = some (fieldInsert fields (fieldValues fields raw)) := by
  have hattrs : (decodeFields fields raw).mapM (encodeAttr fields (decodeFields fields raw))
      = some (fieldValues fields raw) := by
    conv_lhs => arg 2; unfold decodeFields
    exact mapM_map_eq_some fun d hd =>
      encodeAttr_decodeFields hok raw ((sortByKey_perm _ fields).mem_iff.mp hd)
  rw [encodeMapping, hattrs]

/-- Inserting the value of every field over 0 gives the used bits. -/
theorem fieldInsert_fieldValues (hok : fieldsOk fields = true) (raw : Byte) :
    fieldInsert fields (fieldValues fields raw) = .byte (raw &&& usedBits fields) := by
  have hperm := sortByKey_perm (fun d : FieldDef => 255 - d.high) fields
  have hfits : ∀ w ∈ (fieldValues fields raw).map (fun v => (v.1.code, v.2)), Fits fields w := by
    rw [fieldValues, List.map_map]
    exact List.forall_mem_map.mpr fun d hd => ⟨d, hperm.mem_iff.mp hd, rfl, extractField_lt raw d⟩
  have hnodup : ((fieldValues fields raw).map Prod.fst).Nodup := by
    rw [fieldValues, List.map_map]
    exact (hperm.map _).nodup_iff.mpr (fieldsOk_names hok)
  obtain ⟨b, hb⟩ := insertAll_of_fits hok hfits 0#8
  have hfields : ∀ d ∈ fields, extractField b d.high d.low = extractField raw d.high d.low := fun d hd =>
    fieldInsert_named hok hb hnodup hd (List.mem_map_of_mem (hperm.mem_iff.mpr hd))
  rw [fieldInsert_eq_insertAll, hb, eq_and_usedBits hok (insertAll_unused hok hb) hfields]

end

/-- Settles O3: encoding inserts the value of every field, which are those of the byte. -/
theorem bitfieldRoundTrip : Obligations.BitfieldRoundTrip := by
  intro p l raw hwf
  have hok := ((wf_iff_wellFormed p).mp hwf).fields_ok l
  have hencode : encodeMapping (p.fieldsOf l) (decodeFields (p.fieldsOf l) raw)
      = some (.byte (raw &&& usedBits (p.fieldsOf l))) := by
    rw [encodeMapping_decodeFields hok, fieldInsert_fieldValues hok]
  refine ⟨hencode, decodeFields_congr fun d hd => extractField_and_usedBits hok raw hd, ?_⟩
  rw [hencode, Option.some.injEq, InsertResult.byte.injEq]
  constructor
  · intro hself
    rw [← hself, BitVec.and_assoc]
    simp
  · exact fun hunused => (eq_and_usedBits hok hunused fun d _ => rfl).symm

/-! ### The default LAYOUT (R20 to R32, R84, R85) -/

/-- Settles O1: LAYOUT's default is well formed, which asks it of every table. -/
theorem decodeTablesAreInjective : Obligations.DecodeTablesAreInjective := by
  intro l selector rows d hd hrows
  have hwf : Params.p0.wf = true := by decide +kernel
  have hok := ((wf_iff_wellFormed _).mp hwf).fields_ok l
  exact rows_nodup (fieldsOk_table hok hd).1 hrows

/-- Settles O4: the masks of the fields, register by register. -/
theorem usedBitsOfDefaultLayout : Obligations.UsedBitsOfDefaultLayout := by
  intro l
  cases l <;> rfl

end Sys2Proof
end

section
/-!
PROOFS. The configuration sequencer (spec/42_config_sequencer.md): BRDIV (R100), runs of configuration writes (R91,
R102, R103), the eight steps and APPLY (R91 to R99), the tables under the default LAYOUT (R92 to R101), and what is
read back (R104).
-/

namespace Sys2Proof

open Machine Safety Laws

/-! ### Rounding (R9, R100) -/

/-- R9: the quotient is rounded down where the remainder is at most a half, and up where it is at least one. -/
theorem roundQuotient_cases (tie : RoundTie) (num den : Nat) :
    roundQuotient tie num den = num / den ∧ 2 * (num % den) ≤ den ∨
    roundQuotient tie num den = num / den + 1 ∧ den ≤ 2 * (num % den) := by
  unfold roundQuotient
  cases tie <;> dsimp only <;> split_ifs <;> omega

/-- R9: a rounded quotient is at most one half away from the exact one. -/
theorem roundQuotient_nearest (tie : RoundTie) (num : Nat) {den : Nat} (hden : 0 < den) :
    2 * roundQuotient tie num den * den ≤ 2 * num + den ∧
      2 * num ≤ 2 * roundQuotient tie num den * den + den := by
  have hdiv := Nat.div_add_mod' num den
  have hmod := Nat.mod_lt num hden
  rcases roundQuotient_cases tie num den with ⟨hround, hhalf⟩ | ⟨hround, hhalf⟩
  · rw [hround, Nat.mul_assoc]
    omega
  · rw [hround, Nat.mul_assoc, Nat.add_mul]
    omega

/-- D10: an exact half is rounded up. -/
theorem roundQuotient_halfUp {num den : Nat} (h : 2 * (num % den) = den) :
    roundQuotient .halfUp num den = num / den + 1 := by
  simp only [roundQuotient, h, lt_irrefl, if_false]

/-- D10: an exact half is rounded to the even neighbour. -/
theorem roundQuotient_halfEven {num den : Nat} (h : 2 * (num % den) = den) :
    roundQuotient .halfEven num den % 2 = 0 := by
  simp only [roundQuotient, h, lt_irrefl, if_false]
  split <;> omega

/-- Settles O35: BRDIV is a rounded quotient. -/
theorem brdivIsNearest : Obligations.BrdivIsNearest := by
  refine ⟨fun p hrate => ?_, rfl⟩
  obtain ⟨hle, hge⟩ := roundQuotient_nearest p.roundTie p.fxoscHz hrate
  refine ⟨hle, hge, fun hhalf => ⟨fun heven => ?_, fun hup => ?_⟩⟩
  · rw [Params.brdiv, heven, roundQuotient_halfEven hhalf]
  · rw [Params.brdiv, hup, roundQuotient_halfUp hhalf]

/-! ### Runs of configuration writes (R91, R102, R103) -/

/-- The entry of CFGTABLE that writes a byte to a register (R101). -/
def cfgEntry (w : Label × Byte) : CfgEntry := ⟨w.1, .byte w.2⟩

theorem cfgTable_eq_map_cfgEntry {p : Params} (hwf : p.wf = true) : p.cfgTable = (cfgWords p).map cfgEntry :=
  cfgTable_eq_map_cfgWords hwf

/-- `u` is `s` after these writes, each answered Ok (R103, R53). -/
structure WritesDone (s u : State) (ws : List (Label × Byte)) : Prop where
  traced : OnlyTraced s u (writeEvents s.params ws)
  draws : ∀ i, drawAt u i = drawAt s (ws.length + i)
  written : s.env = .ideal → (ws.map fun w => s.params.addrOf w.1).Nodup →
    ∀ w ∈ ws, u.devRead (s.params.addrOf w.1).toNat = w.2
  kept : ∀ x, (∀ w ∈ ws, (s.params.addrOf w.1).toNat ≠ x) → u.devRead x = s.devRead x

theorem WritesDone.nil (s : State) : WritesDone s s [] :=
  ⟨by simp [OnlyTraced, writeEvents], fun i => by simp, fun _ _ => nofun, fun _ _ => rfl⟩

/-- One write answered Ok, and then others. -/
theorem WritesDone.cons {s u : State} {w : Label × Byte} {ws : List (Label × Byte)} (hok : s.nextDraw.ok = true)
    (h : WritesDone (s.wrregTxn (s.params.addrOf w.1) w.2) u ws) : WritesDone s u (w :: ws) where
  traced := by
    obtain ⟨answers, drawn, dev, rfl⟩ := exists_eq_of_onlyTraced h.traced
    simp [OnlyTraced, State.wrregTxn, State.dropDraw, writeEvents, nextAnswer_of_ok hok]
  draws i := by
    rw [h.draws, drawAt_wrregTxn, List.length_cons]
    congr 1
    omega
  written hi hnodup := by
    obtain ⟨hfresh, hnodup⟩ := List.nodup_cons.mp hnodup
    refine List.forall_mem_cons.mpr ⟨?_, h.written hi hnodup⟩
    have hout : ∀ w' ∈ ws, (s.params.addrOf w'.1).toNat ≠ (s.params.addrOf w.1).toNat := fun w' hw' heq =>
      hfresh (List.mem_map.mpr ⟨w', hw', BitVec.eq_of_toNat_eq heq⟩)
    exact (h.kept _ hout).trans (wrregTxn_devRead_same hi hok _ _)
  kept x hx := by
    obtain ⟨hw, hws⟩ := List.forall_mem_cons.mp hx
    exact (h.kept x hws).trans (wrregTxn_devRead_frame (.inl hw.symm) _)

/-- R91: writes that are answered Ok are done, and the run goes on with the next entry. -/
theorem writeEntries_append_of_nextOk {s : State} {ws : List (Label × Byte)} (hok : NextOk s ws.length)
    (es : List CfgEntry) :
    ∃ u, WritesDone s u ws ∧ State.writeEntries (ws.map cfgEntry ++ es) s = State.writeEntries es u := by
  induction ws generalizing s with
  | nil => exact ⟨s, .nil s, rfl⟩
  | cons w ws ih =>
    have hfirst : s.nextDraw.ok = true := nextDraw_eq s ▸ hok 0 (by simp)
    have hrest : NextOk (s.wrregTxn (s.params.addrOf w.1) w.2) ws.length := fun i hi => by
      rw [drawAt_wrregTxn]
      exact hok (i + 1) (by simpa using hi)
    obtain ⟨u, hdone, hrun⟩ := ih hrest
    exact ⟨u, hdone.cons hfirst, (writeEntries_cons_ok hfirst w.1 w.2 _).trans hrun⟩

/-- R103: every write of a run that is answered Ok throughout is done. -/
theorem writeEntries_of_nextOk {s : State} {ws : List (Label × Byte)} (hok : NextOk s ws.length) :
    ∃ u, WritesDone s u ws ∧ State.writeEntries (ws.map cfgEntry) s = (.ok, u) := by
  obtain ⟨u, hdone, hrun⟩ := writeEntries_append_of_nextOk hok []
  exact ⟨u, hdone, by simpa using hrun⟩

/-- R102: the run stops at the first write that is answered Err. -/
theorem writeEntries_of_failsAt {s : State} {ws : List (Label × Byte)} {j : Nat} {w : Label × Byte}
    (hw : ws[j]? = some w) (hfail : FailsAt s j) :
    ∃ u, WritesDone s u (ws.take j) ∧ u.nextDraw.ok = false ∧
      State.writeEntries (ws.map cfgEntry) s = (.failed w.1, u.wrregTxn (u.params.addrOf w.1) w.2) := by
  obtain ⟨hok, herr⟩ := hfail
  obtain ⟨hj, rfl⟩ := List.getElem?_eq_some_iff.mp hw
  have hlength : (ws.take j).length = j := List.length_take_of_le hj.le
  obtain ⟨u, hdone, hrun⟩ :=
    writeEntries_append_of_nextOk (hlength.symm ▸ hok) ((ws.drop j).map cfgEntry)
  have hstop : u.nextDraw.ok = false := by rw [nextDraw_eq, hdone.draws, hlength]; exact herr
  rw [← List.map_append, List.take_append_drop, List.drop_eq_getElem_cons hj] at hrun
  exact ⟨u, hdone, hstop, hrun.trans (writeEntries_cons_err hstop _ _ _)⟩

/-- R83, R177: a run whose bytes are known meets no FieldError. -/
theorem writeEntries_ne_fieldError (ws : List (Label × Byte)) (s : State) (l : Label) (f : Byte) :
    (State.writeEntries (ws.map cfgEntry) s).1 ≠ .fieldError l f := by
  induction ws generalizing s with
  | nil => nofun
  | cons w ws ih =>
    rw [List.map_cons, cfgEntry]
    cases hok : s.nextDraw.ok
    · rw [writeEntries_cons_err hok]
      nofun
    · rw [writeEntries_cons_ok hok]
      exact ih _

/-- R177: so it returns nothing to its caller. -/
theorem runEntries_ret (ws : List (Label × Byte)) (s : State) : (s.runEntries (ws.map cfgEntry)).ret = s.ret := by
  have hframe : (State.writeEntries (ws.map cfgEntry) s).2.ret = s.ret := by rw [writeEntries_frame]
  unfold State.runEntries
  split <;> (rename_i hrun; rw [hrun] at hframe)
  · exact hframe
  · exact (abort_ret _ _).trans hframe
  · exact absurd (congrArg Prod.fst hrun) (writeEntries_ne_fieldError ws s _ _)

/-- R197: while a job holds the ideal device, the abort path of a failed write leaves no register known. -/
theorem abort_indeterminate {s : State} (ho : s.owned = true) (hi : s.env = .ideal) (l : Label) :
    Indeterminate s (s.abort (.writeFailed l)) := by
  have hheld := deviceAfterError_held ho hi l
  exact ⟨by simp [abort_devEpoch, hheld],
    fun a => by simp [State.devRead, abort_dev, abort_devEpoch, hheld, Memory.read]⟩

/-- Writes that are done leave the abort path what it depends on. -/
theorem WritesDone.frame {s u : State} {ws : List (Label × Byte)} (h : WritesDone s u ws) :
    u.params = s.params ∧ u.owned = s.owned ∧ u.env = s.env ∧ u.devEpoch = s.devEpoch := by
  obtain ⟨answers, drawn, dev, rfl⟩ := exists_eq_of_onlyTraced h.traced
  exact ⟨rfl, rfl, rfl, rfl⟩

/-- The failing write and the abort path, after writes that are done (R102, R157). -/
theorem WritesDone.abortsWith {s u : State} {ws : List (Label × Byte)} (h : WritesDone s u ws)
    (herr : u.nextDraw.ok = false) (w : Label × Byte) :
    AbortsWith s ((u.wrregTxn (u.params.addrOf w.1) w.2).abort (.writeFailed w.1)) (.writeFailed w.1)
      (writeEvents s.params ws ++ [.wrreg (s.params.addrOf w.1) w.2 .err] ++ releaseEvents s) := by
  refine abort_abortsWith ?_ _
  have hanswer := nextAnswer_of_err herr
  obtain ⟨answers, drawn, dev, rfl⟩ := exists_eq_of_onlyTraced h.traced
  simp [OnlyTraced, State.wrregTxn, State.dropDraw, hanswer]

/-- Where the ideal device is not held, they leave the other registers as the writes did (log entry 11). -/
theorem WritesDone.abort_kept {s u : State} {ws : List (Label × Byte)} (h : WritesDone s u ws)
    (hheld : s.owned = false ∨ s.env = .unconstrained) (w : Label × Byte) {x : Nat}
    (hx : x ≠ (s.params.addrOf w.1).toNat) :
    ((u.wrregTxn (u.params.addrOf w.1) w.2).abort (.writeFailed w.1)).devRead x = u.devRead x := by
  obtain ⟨hparams, howned, henv, -⟩ := h.frame
  rw [abort_sameDevice (by simpa [howned, henv] using hheld)]
  exact wrregTxn_devRead_frame (.inl (hparams ▸ hx)) _

/-- R91, R102, R103, R197: a run of writes to different addresses does them all, or aborts at the first that fails. -/
theorem runEntries_writesOrAborts {s : State} {ws : List (Label × Byte)}
    (hnodup : (ws.map fun w => s.params.addrOf w.1).Nodup) :
    WritesOrAborts s (s.runEntries (ws.map cfgEntry)) ws := by
  refine ⟨fun hok => ?_, fun j w hw hfail => ?_⟩
  · obtain ⟨u, hdone, hrun⟩ := writeEntries_of_nextOk hok
    rw [State.runEntries, hrun]
    exact ⟨hdone.traced, fun hi => hdone.written hi hnodup, hdone.kept⟩
  · obtain ⟨u, hdone, herr, hrun⟩ := writeEntries_of_failsAt hw hfail
    have htake : ws.take (j + 1) = ws.take j ++ [w] := by rw [List.take_add_one, hw]; rfl
    rw [State.runEntries, hrun]
    refine ⟨hdone.abortsWith herr w, fun ho hi w' hw' => ?_, fun ho hi => ?_, fun hheld x hx => ?_⟩
    · have hsub := hnodup.sublist ((List.take_sublist (j + 1) ws).map _)
      rw [htake, List.map_append, List.nodup_append] at hsub
      obtain ⟨hbefore, -, hdiffer⟩ := hsub
      have hne := hdiffer _ (List.mem_map_of_mem hw') _ (List.mem_singleton_self _)
      rw [hdone.abort_kept (.inl ho) w fun heq => hne (BitVec.eq_of_toNat_eq heq)]
      exact hdone.written hi hbefore w' hw'
    · obtain ⟨-, howned, henv, hepoch⟩ := hdone.frame
      simpa [Indeterminate, hepoch] using abort_indeterminate (s := u.wrregTxn (u.params.addrOf w.1) w.2)
        (howned.trans ho) (henv.trans hi) w.1
    · rw [htake, List.forall_mem_append, List.forall_mem_singleton] at hx
      exact (hdone.abort_kept hheld w hx.2.symm).trans (hdone.kept x hx.1)

/-! ### The eight steps and APPLY (R91 to R99) -/

/-- R7(b), R91: CFGTABLE has each address once. -/
theorem cfgWords_addr_nodup {p : Params} (hwf : p.wf = true) : ((cfgWords p).map fun w => p.addrOf w.1).Nodup := by
  obtain ⟨hlabels, -, -⟩ := configBytesHoldTheirFields p hwf
  have hnodup : ((cfgWords p).map Prod.fst).Nodup := by rw [hlabels]; decide
  have hmap := hnodup.map (addrOf_injective hwf)
  rwa [List.map_map] at hmap

/-- R92 to R99: each of the eight steps runs its stretch of CFGTABLE, which is not empty. -/
theorem exec_configStep (s : State) {i : Instr} {first count : Nat} (hi : i ≠ .apply)
    (hentries : stepEntries i = some (first, count)) :
    exec i s = .next (s.runEntries ((s.params.cfgTable.drop first).take count)) ∧ first < 14 ∧ 0 < count := by
  cases i <;> cases hentries
  case apply => exact absurd rfl hi
  all_goals exact ⟨rfl, by decide, by decide⟩

/-- Settles O30: a step is a run of consecutive entries. -/
theorem configStepsWrite : Obligations.ConfigStepsWrite := by
  intro s i ws hwf hi hws
  obtain ⟨⟨first, count⟩, hentries, rfl⟩ := Option.map_eq_some_iff.mp hws
  obtain ⟨hexec, hfirst, hcount⟩ := exec_configStep s (by rintro rfl; simp at hi) hentries
  have hlength := cfgWords_length hwf
  have hsublist : (((cfgWords s.params).drop first).take count).Sublist (cfgWords s.params) :=
    (List.take_sublist _ _).trans (List.drop_sublist _ _)
  rw [cfgTable_eq_map_cfgEntry hwf, ← List.map_drop, ← List.map_take] at hexec
  refine ⟨?_, _, hexec, runEntries_writesOrAborts ((cfgWords_addr_nodup hwf).sublist (hsublist.map _))⟩
  rw [← List.length_pos_iff, List.length_take, List.length_drop]
  omega

/-- What APPLY returns to its caller (R91, R177). -/
def applyReturn : WriteOutcome → Return
  | .ok => .applied .ok
  | .failed l => .applied (.err (.writeFailed l))
  | .fieldError l f => .fieldError (BitVec.ofNat 8 l.code.val) f

/-- R91: APPLY is the run of all of CFGTABLE, and its outcome is returned. -/
theorem exec_apply (s : State) :
    exec .apply s = .next { s.runEntries s.params.cfgTable with
      ret := some (applyReturn (State.writeEntries s.params.cfgTable s).1) } := by
  change execApply s = _
  unfold execApply State.runEntries
  split <;> (rename_i hrun; simp only [hrun] <;> rfl)

/-- Settles O32: APPLY is one run of writes. -/
theorem applyWritesCfgTable : Obligations.ApplyWritesCfgTable := by
  intro s hwf
  have hlength := cfgWords_length hwf
  have hnodup := cfgWords_addr_nodup hwf
  have hexec := exec_apply s
  rw [cfgTable_eq_map_cfgEntry hwf] at hexec
  refine ⟨hlength, hnodup, _, hexec, ?_, fun hok => ?_, fun j w hw hfail => ?_⟩
  · have hruns := runEntries_writesOrAborts hnodup
    have hret := runEntries_ret (cfgWords s.params) s
    generalize s.runEntries ((cfgWords s.params).map cfgEntry) = t at hruns hret
    rw [← hret]
    exact hruns
  · obtain ⟨u, -, hrun⟩ := writeEntries_of_nextOk (hlength.symm ▸ hok)
    simp only [hrun, applyReturn]
  · obtain ⟨u, -, -, hrun⟩ := writeEntries_of_failsAt hw hfail
    simp only [hrun, applyReturn]

/-! ### The tables under the default LAYOUT (R92 to R101, log entry 18) -/

theorem fieldsOf_of_default {p : Params} (h : p.layout = defaultLayout) (l : Label) :
    p.fieldsOf l = Params.p0.fieldsOf l :=
  congrArg (fun layout : Vector (List FieldDef) 39 => layout[l.code]) h

/-- A list of pairs whose keys differ is determined by its keys and its members. -/
theorem eq_of_keys_of_subset {α β : Type} {xs ys : List (α × β)} (hkeys : xs.map Prod.fst = ys.map Prod.fst)
    (hnodup : (xs.map Prod.fst).Nodup) (hsub : ∀ y ∈ ys, y ∈ xs) : xs = ys := by
  have hlength : xs.length = ys.length := by simpa using congrArg List.length hkeys
  refine List.ext_getElem hlength fun i hx hy => ?_
  have hkey : xs[i].1 = ys[i].1 := by
    simpa [List.getElem?_eq_getElem hx, List.getElem?_eq_getElem hy] using congrArg (fun ks => ks[i]?) hkeys
  exact List.inj_on_of_nodup_map hnodup (List.getElem_mem hx) (hsub _ (List.getElem_mem hy)) hkey

/-! The bytes FIELD_INSERT makes of TARGET's fields (R93 to R99). -/

theorem fieldInsert_datamodul : fieldInsert (Params.p0.fieldsOf .datamodul)
    [(.dataMode, 0), (.modulationType, 1), (.modulationShaping, 0)] = .byte 0x08#8 := by decide

theorem fieldInsert_packetConfig1 : fieldInsert (Params.p0.fieldsOf .packetConfig1)
    [(.packetFormat, 0), (.dcFree, 0), (.crcOn, 0), (.crcAutoClearOff, 0), (.addressFiltering, 0)]
      = .byte 0x00#8 := by decide

theorem fieldInsert_fifoThresh (t : BitVec 7) : fieldInsert (Params.p0.fieldsOf .fifoThresh)
    [(.txStartCondition, 1), (.fifoThreshold, t.toNat)] = .byte (BitVec.ofNat 8 (0x80 + t.toNat)) := by
  revert t; decide

theorem fieldInsert_syncConfig (n : BitVec 3) : fieldInsert (Params.p0.fieldsOf .syncConfig)
    [(.syncOn, 0), (.fifoFillCondition, 0), (.syncSize, n.toNat), (.syncTol, 0)]
      = .byte (BitVec.ofNat 8 (n.toNat * 8)) := by
  revert n; decide

theorem fieldInsert_paLevel (a : BitVec 3) (q : BitVec 5) : fieldInsert (Params.p0.fieldsOf .paLevel)
    [(.pa0On, a.toNat / 4 % 2), (.pa1On, a.toNat / 2 % 2), (.pa2On, a.toNat % 2), (.outputPower, q.toNat)]
      = .byte (BitVec.ofNat 8 (a.toNat * 32 + q.toNat)) := by
  revert a q; decide

theorem fieldInsert_ocp (c : BitVec 4) : fieldInsert (Params.p0.fieldsOf .ocp)
    [(.ocpOn, 0), (.ocpTrim, c.toNat)] = .byte (BitVec.ofNat 8 c.toNat) := by
  revert c; decide

/-- The table of R101. -/
def tableWords (p : Params) : List (Label × Byte) :=
  (expectedWrites p .apply).getD []

/-- R92 to R101: the tables of the steps are stretches of the whole table. -/
theorem expectedWrites_eq (p : Params) (i : Instr) :
    expectedWrites p i = (stepEntries i).map fun e => ((tableWords p).drop e.1).take e.2 := by
  cases i <;> rfl

/-- R101: under the default LAYOUT CFGTABLE writes the pairs of the table. -/
theorem cfgWords_of_default {p : Params} (hwf : p.wf = true) (hlayout : p.layout = defaultLayout) :
    cfgWords p = tableWords p := by
  obtain ⟨hlabels, hwhole, -⟩ := configBytesHoldTheirFields p hwf
  have hfields {l : Label} {values : List (FieldName × Nat)} {b : Byte} (hl : (l, values) ∈ targetFields p)
      (hb : fieldInsert (Params.p0.fieldsOf l) values = .byte b) : (l, b) ∈ cfgWords p := by
    rw [mem_cfgWords_iff hwf, ← hb, ← fieldsOf_of_default hlayout]
    exact targetFields_mem_cfgTable p hl
  refine eq_of_keys_of_subset hlabels (by rw [hlabels]; decide) ?_
  simp only [tableWords, expectedWrites, Option.getD_some, List.forall_mem_cons]
  exact ⟨hwhole _ (by simp [wholeBytes]), hwhole _ (by simp [wholeBytes]), hwhole _ (by simp [wholeBytes]),
    hfields (by simp [targetFields]) fieldInsert_datamodul,
    hfields (by simp [targetFields]) fieldInsert_packetConfig1,
    hwhole _ (by simp [wholeBytes]),
    hfields (by simp [targetFields]) (fieldInsert_fifoThresh p.fifoThreshold),
    hwhole _ (by simp [wholeBytes]), hwhole _ (by simp [wholeBytes]),
    hfields (by simp [targetFields]) (fieldInsert_syncConfig p.syncSizeField),
    hwhole _ (by simp [wholeBytes]), hwhole _ (by simp [wholeBytes]),
    hfields (by simp [targetFields]) (fieldInsert_paLevel p.paStage p.outputPower),
    hfields (by simp [targetFields]) (fieldInsert_ocp p.ocpTrimCfg), nofun⟩

/-- Settles O58: each step writes its stretch of CFGTABLE, which is that of the table. -/
theorem cfgWordsAreTheTable : Obligations.CfgWordsAreTheTable := by
  intro p i hwf hlayout
  rw [stepWrites, expectedWrites_eq, cfgWords_of_default hwf hlayout]

/-! ### Read-back and decode under the default LAYOUT (R104) -/

theorem decodeFields_datamodul : decodeFields (Params.p0.fieldsOf .datamodul) 0x08#8 =
    [(.dataMode, .label .packet), (.modulationType, .label .ook), (.modulationShaping, .label .none)] := by decide

theorem decodeFields_packetConfig1 : decodeFields (Params.p0.fieldsOf .packetConfig1) 0x00#8 =
    [(.packetFormat, .label .fixedLength), (.dcFree, .label .none), (.crcOn, .label .off),
     (.crcAutoClearOff, .label .autoClearEnabled), (.addressFiltering, .label .off)] := by decide

theorem decodeFields_fifoThresh (t : BitVec 7) :
    decodeFields (Params.p0.fieldsOf .fifoThresh) (BitVec.ofNat 8 (0x80 + t.toNat)) =
      [(.txStartCondition, .label .fifoNotEmpty), (.fifoThreshold, .number t.toNat)] := by
  revert t; decide

theorem decodeFields_syncConfig (n : BitVec 3) :
    decodeFields (Params.p0.fieldsOf .syncConfig) (BitVec.ofNat 8 (n.toNat * 8)) =
      [(.syncOn, .label .off), (.fifoFillCondition, .label .onSyncAddressInterrupt), (.syncSize, .number n.toNat),
       (.syncTol, .number 0)] := by
  revert n; decide

theorem decodeFields_ocp (c : BitVec 4) :
    decodeFields (Params.p0.fieldsOf .ocp) (BitVec.ofNat 8 c.toNat) =
      [(.ocpOn, .label .disabled), (.ocpTrim, .number c.toNat)] := by
  revert c; decide

/-- R98, R100: BRDIV fits its pair of registers. -/
theorem natBE_brdiv {p : Params} (hwf : p.wf = true) :
    natBE [BitVec.ofNat 8 (p.brdiv / 256), BitVec.ofNat 8 p.brdiv] = p.brdiv := by
  have hle := ((wf_iff_wellFormed p).mp hwf).brdiv_le
  simpa [bytesBE, Nat.mod_eq_of_lt (show p.brdiv < 65536 by omega)] using natBE_bytesBE 2 p.brdiv

/-- R103, R104: after a successful APPLY the ideal device holds the bytes of the table. -/
theorem exec_apply_devRead {s : State} (hwf : s.params.wf = true) (hlayout : s.params.layout = defaultLayout)
    (hideal : s.env = .ideal) (hok : NextOk s 14) :
    ∃ t, exec .apply s = .next t ∧ ∀ w ∈ tableWords s.params, t.devRead (s.params.addrOf w.1).toNat = w.2 := by
  obtain ⟨hlength, -, t, hexec, ⟨hdone, -⟩, -, -⟩ := applyWritesCfgTable s hwf
  obtain ⟨-, hwritten, -⟩ := hdone (hlength.symm ▸ hok)
  rw [← cfgWords_of_default hwf hlayout]
  exact ⟨t, hexec, hwritten hideal⟩

/-- Settles O33: what APPLY wrote is read back, and those bytes are known. -/
theorem readBackAfterApply : Obligations.ReadBackAfterApply := by
  intro s hwf hlayout hideal hok
  obtain ⟨t, hexec, hread⟩ := exec_apply_devRead hwf hlayout hideal hok
  simp only [tableWords, expectedWrites, Option.getD_some, List.forall_mem_cons] at hread
  obtain ⟨-, -, -, hdatamodul, hpacket, hpaylen, hfifo, hpreambleMsb, hpreambleLsb, hsync, hbitrateMsb, hbitrateLsb,
    -, hocp, -⟩ := hread
  refine ⟨t, hexec, _, fun _ => rfl, ?_⟩
  simp only [fieldsOf_of_default hlayout, hdatamodul, hpacket, hpaylen, hfifo, hpreambleMsb, hpreambleLsb, hsync,
    hbitrateMsb, hbitrateLsb, hocp, decodeFields_datamodul, decodeFields_packetConfig1, decodeFields_fifoThresh,
    decodeFields_syncConfig, decodeFields_ocp, natBE_brdiv hwf]
  simp

end Sys2Proof
end

section
/-!
PROOFS. The register inspector (spec/43_register_inspector.md): the course of an inspection (R110, R118), the entries of
its report (R111), and the derived attributes (R112, R114 to R116).
-/

namespace Sys2Proof

open Machine Safety Laws

/-! ### What RDREG is answered (R52, R53) -/

/-- What RDREG of a register is answered when `i` answers have been used since `s`. -/
def answerAt (s : State) (i : Nat) (l : Label) : ReadAnswer :=
  match s.env with
  | .ideal => .ok (s.devRead (s.params.addrOf l).toNat)
  | .unconstrained => if (drawAt s i).ok then .ok (drawAt s i).byte else .ioError

theorem readAnswer_eq_answerAt (s : State) (l : Label) : s.readAnswer (s.params.addrOf l) = answerAt s 0 l := by
  cases henv : s.env <;> simp [State.readAnswer, answerAt, henv, nextDraw_eq]

theorem answerAt_ideal {s : State} (h : s.env = .ideal) (i : Nat) (l : Label) :
    answerAt s i l = .ok (s.devRead (s.params.addrOf l).toNat) := by
  simp [answerAt, h]

theorem answerAt_unconstrained {s : State} (h : s.env = .unconstrained) (i : Nat) (l : Label) :
    answerAt s i l = if (drawAt s i).ok then .ok (drawAt s i).byte else .ioError := by
  simp [answerAt, h]

/-- R52, R53: the ideal device answers every read, and so does an environment whose answer is Ok. -/
theorem answerAt_ne_ioError {s : State} {i : Nat} (h : s.env = .ideal ∨ (drawAt s i).ok = true) (l : Label) :
    answerAt s i l ≠ .ioError := by
  cases henv : s.env with
  | ideal => simp [answerAt_ideal henv]
  | unconstrained => simp [answerAt_unconstrained henv, h.resolve_left (by simp [henv])]

/-- R52, R53: a read moves the answers to come up by one, and the ideal device keeps its bytes. -/
theorem answerAt_rdregTxn (s : State) (a : Byte) (i : Nat) (l : Label) :
    answerAt (s.rdregTxn a) i l = answerAt s (i + 1) l := by
  cases henv : s.env with
  | ideal => rw [answerAt_ideal henv, answerAt_ideal (s := s.rdregTxn a) henv]; rfl
  | unconstrained =>
    rw [answerAt_unconstrained henv, answerAt_unconstrained (s := s.rdregTxn a) henv, drawAt_rdregTxn]
    simp [henv]

/-- Reads whose answers, from `s` on, are these bytes. -/
def Answered (s : State) (reads : List (Label × Byte)) : Prop :=
  ∀ i r, reads[i]? = some r → answerAt s i r.1 = .ok r.2

theorem answered_append_singleton {s : State} {reads : List (Label × Byte)} {r : Label × Byte} (h : Answered s reads)
    (hr : answerAt s reads.length r.1 = .ok r.2) : Answered s (reads ++ [r]) := by
  intro i r' hi
  rcases Nat.lt_or_ge i reads.length with hlt | hge
  · exact h i r' (by rwa [List.getElem?_append_left hlt] at hi)
  · rw [List.getElem?_append_right hge, List.getElem?_singleton] at hi
    obtain ⟨hzero, hr'⟩ := Option.ite_none_right_eq_some.mp hi
    obtain rfl : i = reads.length := by omega
    exact Option.some.inj hr' ▸ hr

/-- The reads in an order of registers under the ideal device: each has the byte of its register (R53). -/
def deviceReads (s : State) (order : List Label) : List (Label × Byte) :=
  order.map fun l => (l, s.devRead (s.params.addrOf l).toNat)

@[simp] theorem deviceReads_labels (s : State) (order : List Label) : (deviceReads s order).map Prod.fst = order := by
  simp [deviceReads, Function.comp_def]

theorem answered_deviceReads {s : State} (h : s.env = .ideal) (order : List Label) :
    Answered s (deviceReads s order) := by
  intro i r hi
  obtain ⟨l, -, rfl⟩ := List.mem_map.mp (List.mem_of_getElem? hi)
  exact answerAt_ideal h i l

theorem Answered.byte_of_ideal {s : State} {reads : List (Label × Byte)} (h : Answered s reads)
    (hideal : s.env = .ideal) {r : Label × Byte} (hr : r ∈ reads) : r.2 = s.devRead (s.params.addrOf r.1).toNat := by
  obtain ⟨i, hi⟩ := List.mem_iff_getElem?.mp hr
  have hanswer := h i r hi
  rw [answerAt_ideal hideal] at hanswer
  exact (ReadAnswer.ok.inj hanswer).symm

/-- The first `j` reads in an order of registers, under the unconstrained environment (R52). -/
def drawnReads (s : State) (order : List Label) (j : Nat) : List (Label × Byte) :=
  (List.range j).map fun i => (order.getD i .opmode, (drawAt s i).byte)

theorem drawnReads_labels (s : State) {order : List Label} {j : Nat} (hj : j ≤ order.length) :
    (drawnReads s order j).map Prod.fst = order.take j := by
  refine List.ext_getElem (by simp [drawnReads, hj]) fun i _ hi => ?_
  have hlt : i < order.length := hi.trans_le (List.length_take_le' j order)
  simp [drawnReads, hlt]

theorem answered_drawnReads {s : State} (h : s.env = .unconstrained) {j : Nat} (hok : NextOk s j) (order : List Label) :
    Answered s (drawnReads s order j) := by
  intro i r hi
  obtain ⟨hlt, rfl⟩ := List.getElem?_eq_some_iff.mp hi
  have hij : i < j := by simpa [drawnReads] using hlt
  simp [drawnReads, answerAt_unconstrained h, hok i hij]

/-! ### The entries of the report (R111) -/

/-- The entries that reads add to a report, `seen` having been read before. -/
def reportEntries (p : Params) (seen : List (Label × Byte)) : List (Label × Byte) → List ReportEntry
  | [] => []
  | r :: reads => reportEntry p r.1 r.2 (r :: seen) :: reportEntries p (r :: seen) reads

/-- R111: one entry per register read, with the byte as read. -/
theorem reportEntries_reads (p : Params) (seen reads : List (Label × Byte)) :
    (reportEntries p seen reads).map (fun e => (e.register, e.raw)) = reads := by
  induction reads generalizing seen with
  | nil => rfl
  | cons r reads ih => simp [reportEntries, ih, reportEntry]

theorem reportEntries_register (p : Params) (seen reads : List (Label × Byte)) :
    (reportEntries p seen reads).map ReportEntry.register = reads.map Prod.fst := by
  simpa [Function.comp_def] using congrArg (List.map Prod.fst) (reportEntries_reads p seen reads)

theorem reportEntries_raw (p : Params) (seen reads : List (Label × Byte)) :
    (reportEntries p seen reads).map ReportEntry.raw = reads.map Prod.snd := by
  simpa [Function.comp_def] using congrArg (List.map Prod.snd) (reportEntries_reads p seen reads)

/-- A register that was read has an entry, and the other way round. -/
theorem exists_entry_iff {p : Params} {seen reads : List (Label × Byte)} {l : Label} {b : Byte} :
    (∃ e ∈ reportEntries p seen reads, e.register = l ∧ e.raw = b) ↔ (l, b) ∈ reads := by
  conv_rhs => rw [← reportEntries_reads p seen reads]
  simp

/-- An entry is made when its register has just been read, after the reads before it (R110). -/
theorem mem_reportEntries {p : Params} {seen reads : List (Label × Byte)} {e : ReportEntry}
    (h : e ∈ reportEntries p seen reads) :
    ∃ before r after, reads = before ++ r :: after ∧ e = reportEntry p r.1 r.2 (r :: (before.reverse ++ seen)) := by
  induction reads generalizing seen with
  | nil => cases h
  | cons r reads ih =>
    rcases List.mem_cons.mp h with rfl | h
    · exact ⟨[], r, reads, rfl, rfl⟩
    · obtain ⟨before, r', after, rfl, rfl⟩ := ih h
      exact ⟨r :: before, r', after, rfl, by simp⟩

theorem reportEntry_mem_reportEntries (p : Params) (seen before : List (Label × Byte)) (r : Label × Byte)
    (after : List (Label × Byte)) :
    reportEntry p r.1 r.2 (r :: (before.reverse ++ seen)) ∈ reportEntries p seen (before ++ r :: after) := by
  induction before generalizing seen with
  | nil => simp [reportEntries]
  | cons r' before ih => simpa [reportEntries] using .inr (ih (r' :: seen))

/-- R111: the attributes of an entry begin with those of its register's fields. -/
theorem fieldAttrs_prefix {p : Params} {seen reads : List (Label × Byte)} {e : ReportEntry}
    (h : e ∈ reportEntries p seen reads) :
    ((decodeFields (p.fieldsOf e.register) e.raw).map
      (fun (f, r) => (⟨.field f, .reading r, none⟩ : ReportAttr))) <+: e.attrs := by
  obtain ⟨before, r, after, -, rfl⟩ := mem_reportEntries h
  exact List.prefix_append _ _

/-! ### The course of an inspection (R110, R118) -/

/-- The RDREG events of reads that were answered (R142). -/
def readEvents (p : Params) (reads : List (Label × Byte)) : List Event :=
  reads.map fun r => .rdreg (p.addrOf r.1) (.ok r.2)

/-- `u` is `s` after the inspector's loop has done these reads, each answered with its byte. -/
structure ReadsDone (s u : State) (seen reads : List (Label × Byte)) : Prop where
  effect : u = { s with
    trace := s.trace ++ readEvents s.params reads
    report := s.report ++ reportEntries s.params seen reads
    answers := u.answers
    drawn := u.drawn }
  upcoming : ∀ i l, answerAt u i l = answerAt s (reads.length + i) l
  ideal : s.env = .ideal → u.answers = s.answers ∧ u.drawn = s.drawn

theorem ReadsDone.nil (s : State) (seen : List (Label × Byte)) : ReadsDone s s seen [] :=
  ⟨by simp [readEvents, reportEntries], fun i l => by simp, fun _ => ⟨rfl, rfl⟩⟩

/-- The state after one read that was answered, its entry in the report. -/
def afterRead (s : State) (seen : List (Label × Byte)) (r : Label × Byte) : State :=
  { s.rdregTxn (s.params.addrOf r.1) with report := s.report ++ [reportEntry s.params r.1 r.2 (r :: seen)] }

theorem answerAt_afterRead (s : State) (seen : List (Label × Byte)) (r : Label × Byte) (i : Nat) (l : Label) :
    answerAt (afterRead s seen r) i l = answerAt s (i + 1) l :=
  answerAt_rdregTxn s (s.params.addrOf r.1) i l

theorem ReadsDone.cons {s u : State} {seen reads : List (Label × Byte)} {r : Label × Byte}
    (hr : answerAt s 0 r.1 = .ok r.2) (h : ReadsDone (afterRead s seen r) u (r :: seen) reads) :
    ReadsDone s u seen (r :: reads) where
  effect := by
    rw [h.effect]
    simp [afterRead, State.rdregTxn, readAnswer_eq_answerAt, hr, readEvents, reportEntries]
  upcoming i l := by
    rw [h.upcoming, answerAt_afterRead, List.length_cons, Nat.add_right_comm]
  ideal hideal := by
    simpa [afterRead, rdregTxn_ideal hideal] using h.ideal hideal

theorem inspectLoop_cons_ok {s : State} {r : Label × Byte} (h : answerAt s 0 r.1 = .ok r.2) (rest : List Label)
    (seen : List (Label × Byte)) :
    State.inspectLoop (r.1 :: rest) seen s = State.inspectLoop rest (r :: seen) (afterRead s seen r) := by
  simp [State.inspectLoop, readAnswer_eq_answerAt, h, afterRead]

theorem inspectLoop_cons_ioError {s : State} {l : Label} (h : answerAt s 0 l = .ioError) (rest : List Label)
    (seen : List (Label × Byte)) :
    State.inspectLoop (l :: rest) seen s =
      { s.rdregTxn (s.params.addrOf l) with inspectErr := some (.readFailed l) } := by
  simp [State.inspectLoop, readAnswer_eq_answerAt, h]

/-- R110: reads that are answered are done, and the loop goes on with the next label. -/
theorem inspectLoop_append {s : State} {reads : List (Label × Byte)} (h : Answered s reads) (rest : List Label)
    (seen : List (Label × Byte)) :
    ∃ u, ReadsDone s u seen reads ∧
      State.inspectLoop (reads.map Prod.fst ++ rest) seen s = State.inspectLoop rest (reads.reverse ++ seen) u := by
  induction reads generalizing s seen with
  | nil => exact ⟨s, .nil s seen, rfl⟩
  | cons r reads ih =>
    have hfirst : answerAt s 0 r.1 = .ok r.2 := h 0 r rfl
    have hrest : Answered (afterRead s seen r) reads := fun i r' hi => by
      rw [answerAt_afterRead]
      exact h (i + 1) r' hi
    obtain ⟨u, hdone, hloop⟩ := ih hrest (r :: seen)
    exact ⟨u, hdone.cons hfirst, (inspectLoop_cons_ok hfirst _ seen).trans (by simpa using hloop)⟩

/-- How an inspection of labels in this order goes: which reads are answered, and at which label it stops (R118). -/
inductive InspectRun (s : State) (order : List Label) : List (Label × Byte) → Option Label → Prop where
  | finished {reads : List (Label × Byte)} (answered : Answered s reads) (labels : reads.map Prod.fst = order) :
    InspectRun s order reads none
  | stopped {reads : List (Label × Byte)} {l : Label} (rest : List Label) (answered : Answered s reads)
    (labels : order = reads.map Prod.fst ++ l :: rest) (failed : answerAt s reads.length l = .ioError) :
    InspectRun s order reads (some l)

/-- R110, R118: every inspection has a course. -/
theorem exists_inspectRun (s : State) (order : List Label) : ∃ reads unread, InspectRun s order reads unread := by
  induction order using List.reverseRecOn with
  | nil => exact ⟨[], none, .finished nofun rfl⟩
  | append_singleton order l ih =>
    obtain ⟨reads, unread, hrun⟩ := ih
    cases hrun with
    | @stopped l' rest answered labels failed =>
      exact ⟨reads, some l', .stopped (rest ++ [l]) answered (by simp [labels]) failed⟩
    | finished answered labels =>
      cases hanswer : answerAt s reads.length l with
      | ok b =>
        exact ⟨reads ++ [(l, b)], none, .finished (answered_append_singleton answered hanswer) (by simp [labels])⟩
      | ioError => exact ⟨reads, some l, .stopped [] answered (by rw [labels]) hanswer⟩

section
variable {s : State} {order : List Label} {reads : List (Label × Byte)} {unread : Option Label}

theorem InspectRun.answered (h : InspectRun s order reads unread) : Answered s reads := by
  cases h <;> assumption

theorem InspectRun.labels_prefix (h : InspectRun s order reads unread) : reads.map Prod.fst <+: order := by
  cases h with
  | finished _ labels => rw [labels]
  | stopped rest _ labels _ => exact ⟨_, labels.symm⟩

/-- R53, R110: an inspection whose reads are all answered reads every label. -/
theorem InspectRun.labels_eq (h : InspectRun s order reads unread) {n : Nat} (hn : order.length ≤ n)
    (hok : s.env = .ideal ∨ NextOk s n) : reads.map Prod.fst = order := by
  cases h with
  | finished _ labels => exact labels
  | @stopped l rest _ labels failed =>
    have hlength : order.length = reads.length + (rest.length + 1) := by simp [labels]
    exact absurd failed (answerAt_ne_ioError (hok.imp_right fun hok => hok _ (by omega)) l)

end

/-- INSPECT of modelled labels, each named by its number (R110). -/
abbrev inspectOf (ls : List Label) : Instr :=
  .inspect (ls.map fun l => BitVec.ofNat 8 l.code.val)

/-- `s` after an inspection that did these reads and stopped at `unread`, if at any label (R110, R118). -/
def inspectedState (s : State) (reads : List (Label × Byte)) (unread : Option Label) (answers : List Draw)
    (drawn : Nat) : State :=
  { s with
    trace := s.trace ++ (readEvents s.params reads ++ unread.toList.map fun l => .rdreg (s.params.addrOf l) .ioError)
    report := reportEntries s.params [] reads
    inspectErr := unread.map .readFailed
    ret := some (.inspected (unread.map .readFailed))
    answers := answers
    drawn := drawn }

/-- `s` as the loop of INSPECT starts from it (R110). -/
def clearReport (s : State) : State :=
  { s with
    report := []
    inspectErr := none }

/-- INSPECT's result goes to its caller (log entry 12). -/
def returnInspected (s : State) : State :=
  { s with ret := some (.inspected s.inspectErr) }

/-- R110: INSPECT of modelled labels is the loop over them in ascending order of address. -/
theorem exec_inspectOf (s : State) (ls : List Label) :
    exec (inspectOf ls) s =
      .next (returnInspected (State.inspectLoop (Machine.Params.byAddress s.params ls) [] (clearReport s))) := by
  change execInspect _ s = _
  rw [execInspect, resolveLabels_codes]
  rfl

/-- R110, R118: what INSPECT does, for the course that its labels and the answers give it. -/
theorem InspectRun.exec_eq {s : State} {ls : List Label} {reads : List (Label × Byte)} {unread : Option Label}
    (h : InspectRun s (Machine.Params.byAddress s.params ls) reads unread) :
    ∃ answers drawn, exec (inspectOf ls) s = .next (inspectedState s reads unread answers drawn) ∧
      (s.env = .ideal → answers = s.answers ∧ drawn = s.drawn) := by
  have hanswered : Answered (clearReport s) reads := h.answered
  rw [exec_inspectOf]
  cases h with
  | finished _ labels =>
    obtain ⟨u, hdone, hloop⟩ := inspectLoop_append hanswered [] []
    refine ⟨u.answers, u.drawn, ?_, hdone.ideal⟩
    rw [← labels, ← List.append_nil (reads.map Prod.fst), hloop, State.inspectLoop, hdone.effect]
    simp [returnInspected, inspectedState, clearReport]
  | @stopped l rest _ labels failed =>
    obtain ⟨u, hdone, hloop⟩ := inspectLoop_append hanswered (l :: rest) []
    have hparams : u.params = s.params := by rw [hdone.effect]; rfl
    have herr : answerAt u 0 l = .ioError := (hdone.upcoming 0 l).trans failed
    have hread : u.readAnswer (s.params.addrOf l) = .ioError := by rw [← hparams, readAnswer_eq_answerAt, herr]
    refine ⟨(u.rdregTxn (u.params.addrOf l)).answers, (u.rdregTxn (u.params.addrOf l)).drawn, ?_,
      fun hideal => absurd failed (answerAt_ne_ioError (.inl hideal) l)⟩
    rw [labels, hloop, inspectLoop_cons_ioError herr]
    simp only [State.rdregTxn, hparams, hread]
    rw [hdone.effect]
    simp [returnInspected, inspectedState, clearReport]

/-- Whatever INSPECT does, it is what some course of its reads gives. -/
theorem exists_run_of_exec {s t : State} {ls : List Label} (hexec : exec (inspectOf ls) s = .next t) :
    ∃ reads unread answers drawn, InspectRun s (Machine.Params.byAddress s.params ls) reads unread ∧
      t = inspectedState s reads unread answers drawn := by
  obtain ⟨reads, unread, hrun⟩ := exists_inspectRun s (Machine.Params.byAddress s.params ls)
  obtain ⟨answers, drawn, heq, -⟩ := hrun.exec_eq
  exact ⟨reads, unread, answers, drawn, hrun, Host.Outcome.next.inj (hexec.symm.trans heq)⟩

/-- R7(b), R110: the addresses of the labels read ascend strictly. -/
theorem byAddress_strictly_sorted {p : Params} (hwf : p.wf = true) (ls : List Label) :
    (Machine.Params.byAddress p ls).Pairwise (fun l m => (p.addrOf l).toNat < (p.addrOf m).toNat) :=
  ((byAddress_sorted p ls).and (byAddress_nodup p ls)).imp fun h =>
    lt_of_le_of_ne h.1 fun heq => h.2 (addrOf_injective hwf (BitVec.eq_of_toNat_eq heq))

/-- Settles O36: under the ideal device every read is answered. -/
theorem inspectReadsInAddressOrder : Obligations.InspectReadsInAddressOrder := by
  intro s ls hwf hideal
  have hrun := InspectRun.finished (answered_deviceReads hideal (Machine.Params.byAddress s.params ls))
    (deviceReads_labels s _)
  obtain ⟨answers, drawn, hexec, hnone⟩ := hrun.exec_eq
  obtain ⟨rfl, rfl⟩ := hnone hideal
  refine ⟨_, byAddress_nodup s.params ls, mem_byAddress s.params ls, byAddress_strictly_sorted hwf ls,
    reportEntries s.params [] (deviceReads s (Machine.Params.byAddress s.params ls)), hexec.trans ?_, ?_, ?_,
    fun e he => fieldAttrs_prefix he⟩
  · simp [inspectedState, readEvents, deviceReads]
  · rw [reportEntries_register, deviceReads_labels]
  · simp [reportEntries_raw, deviceReads]

/-- R118: under the unconstrained environment an answer Err stops the inspection at its label. -/
theorem inspectRun_of_failsAt {s : State} (henv : s.env = .unconstrained) {order : List Label} {j : Nat} {l : Label}
    (hl : order[j]? = some l) (hfail : FailsAt s j) : InspectRun s order (drawnReads s order j) (some l) := by
  obtain ⟨hok, herr⟩ := hfail
  obtain ⟨hj, rfl⟩ := List.getElem?_eq_some_iff.mp hl
  refine .stopped (order.drop (j + 1)) (answered_drawnReads henv hok order) ?_ ?_
  · rw [drawnReads_labels s hj.le, ← List.drop_eq_getElem_cons hj, List.take_append_drop]
  · simp [answerAt_unconstrained henv, drawnReads, herr]

/-- R110: under the unconstrained environment an inspection that is answered Ok throughout reads every label. -/
theorem inspectRun_of_nextOk {s : State} (henv : s.env = .unconstrained) {order : List Label}
    (hok : NextOk s order.length) : InspectRun s order (drawnReads s order order.length) none :=
  .finished (answered_drawnReads henv hok order) (by rw [drawnReads_labels s le_rfl, List.take_length])

/-- Settles O37: the answers decide at which label the inspection stops, if at any. -/
theorem inspectStopsAtFailedRead : Obligations.InspectStopsAtFailedRead := by
  intro s ls hwf henv
  obtain ⟨reads, unread, hrun⟩ := exists_inspectRun s (Machine.Params.byAddress s.params ls)
  obtain ⟨answers, drawn, hexec, -⟩ := hrun.exec_eq
  refine ⟨_, byAddress_nodup s.params ls, mem_byAddress s.params ls, byAddress_strictly_sorted hwf ls, _, hexec,
    fun _ => rfl, fun j l hl hfail => ?_, fun hok => ?_, fun e he => fieldAttrs_prefix he⟩
  · obtain ⟨answers', drawn', heq, -⟩ := (inspectRun_of_failsAt henv hl hfail).exec_eq
    obtain ⟨hj, -⟩ := List.getElem?_eq_some_iff.mp hl
    rw [Host.Outcome.next.inj (hexec.symm.trans heq)]
    exact ⟨by simp [OnlyTraced, inspectedState, readEvents, drawnReads],
      by rw [← drawnReads_labels s hj.le]; exact reportEntries_register _ _ _,
      (reportEntries_raw _ _ _).trans (by simp [drawnReads])⟩
  · obtain ⟨answers', drawn', heq, -⟩ := (inspectRun_of_nextOk henv hok).exec_eq
    rw [Host.Outcome.next.inj (hexec.symm.trans heq)]
    exact ⟨by simp [OnlyTraced, inspectedState, readEvents, drawnReads],
      (reportEntries_register _ _ _).trans (by rw [drawnReads_labels s le_rfl, List.take_length]),
      (reportEntries_raw _ _ _).trans (by simp [drawnReads])⟩

/-! ### The derived attributes (R112, R114 to R116) -/

/-- The derived attributes of an entry that have this name. -/
def derivedNamed (p : Params) (l : Label) (raw : Byte) (seen : List (Label × Byte)) : AttrName → List ReportAttr
  | .field _ => []
  | .effectiveBitRate => groupAttr bitrateGroup (bitRateAttr p.fxoscHz) l seen
  | .currentLimit => currentLimitAttr (p.fieldsOf l) l raw
  | .syncWord => groupAttr syncGroup syncWordAttr l seen
  | .aesKey => groupAttr aesGroup aesKeyAttr l seen

theorem mem_groupAttr_iff {group : List Label} {mk : List Byte → ReportAttr} {l : Label}
    {seen : List (Label × Byte)} {a : ReportAttr} :
    a ∈ groupAttr group mk l seen ↔ l ∈ group ∧ ∃ bytes, groupBytes seen group = some bytes ∧ a = mk bytes := by
  unfold groupAttr
  cases groupBytes seen group <;> simp

theorem mem_currentLimitAttr_iff {fields : List FieldDef} {l : Label} {raw : Byte} {a : ReportAttr} :
    a ∈ currentLimitAttr fields l raw ↔ l = .ocp ∧ ∃ trim, fieldValue fields FieldName.ocpTrim.code raw = some trim ∧
      a = ⟨.currentLimit, .number (45 + 5 * trim), some .milliamp⟩ := by
  unfold currentLimitAttr
  cases fieldValue fields FieldName.ocpTrim.code raw <;> simp

theorem name_of_mem_derivedNamed {p : Params} {l : Label} {raw : Byte} {seen : List (Label × Byte)} {name : AttrName}
    {a : ReportAttr} (h : a ∈ derivedNamed p l raw seen name) : a.name = name := by
  cases name with
  | field f => cases h
  | currentLimit =>
    obtain ⟨-, trim, -, rfl⟩ := mem_currentLimitAttr_iff.mp h
    rfl
  | _ =>
    obtain ⟨-, bytes, -, rfl⟩ := mem_groupAttr_iff.mp h
    rfl

theorem mem_derivedAttrs_iff {p : Params} {l : Label} {raw : Byte} {seen : List (Label × Byte)} {a : ReportAttr} :
    a ∈ derivedAttrs p l raw seen ↔ a ∈ derivedNamed p l raw seen a.name := by
  constructor
  · intro h
    obtain ⟨name, hname⟩ : ∃ name, a ∈ derivedNamed p l raw seen name := by
      simp only [derivedAttrs, List.mem_append] at h
      rcases h with ((h | h) | h) | h
      exacts [⟨.effectiveBitRate, h⟩, ⟨.currentLimit, h⟩, ⟨.syncWord, h⟩, ⟨.aesKey, h⟩]
    rwa [name_of_mem_derivedNamed hname]
  · cases a.name <;> simp +contextual [derivedNamed, derivedAttrs]

/-- R111: the attributes of an entry that are not a field's are those due at its label. -/
theorem mem_attrs_iff {p : Params} {l : Label} {raw : Byte} {seen : List (Label × Byte)} {a : ReportAttr}
    (hfield : ∀ f, a.name ≠ .field f) :
    a ∈ (reportEntry p l raw seen).attrs ↔ a ∈ derivedNamed p l raw seen a.name := by
  rw [reportEntry, List.mem_append, mem_derivedAttrs_iff, or_iff_right]
  intro h
  obtain ⟨⟨f, r⟩, -, rfl⟩ := List.mem_map.mp h
  exact hfield f rfl

/-! ### What a group of registers yields (R112, R115, R116) -/

/-- D14: a group whose bytes are at hand has been read. -/
theorem mem_seen_of_groupBytes {seen : List (Label × Byte)} {group : List Label} {bytes : List Byte}
    (h : groupBytes seen group = some bytes) : ∀ l ∈ group, ∃ b, (l, b) ∈ seen := by
  induction group generalizing bytes with
  | nil => nofun
  | cons l group ih =>
    simp only [groupBytes] at h
    split at h
    · next b bs hb hbs => exact List.forall_mem_cons.mpr ⟨⟨b, mem_of_lookup_eq_some hb⟩, ih hbs⟩
    · cases h

theorem groupBytes_of_lookup {seen : List (Label × Byte)} {group : List Label} {bytes : Label → Byte}
    (h : ∀ l ∈ group, seen.lookup l = some (bytes l)) : groupBytes seen group = some (group.map bytes) := by
  induction group with
  | nil => rfl
  | cons l group ih =>
    obtain ⟨hl, hgroup⟩ := List.forall_mem_cons.mp h
    simp [groupBytes, hl, ih hgroup]

/-- In a list in ascending order every element is before the last, or is the last. -/
theorem eq_or_lt_getLast {α : Type} {key : α → Nat} {xs : List α} {last : α}
    (hasc : xs.Pairwise fun x y => key x < key y) (hlast : xs.getLast? = some last) :
    ∀ x ∈ xs, x = last ∨ key x < key last := by
  obtain ⟨init, rfl⟩ := List.getLast?_eq_some_iff.mp hlast
  obtain ⟨-, -, hbefore⟩ := List.pairwise_append.mp hasc
  intro x hx
  rcases List.mem_append.mp hx with hx | hx
  · exact .inr (hbefore x hx last (List.mem_singleton_self last))
  · exact .inl (List.mem_singleton.mp hx)

/-- Reads in an inspection's order: each register once, in ascending order of address (R110). -/
structure InOrder (p : Params) (reads : List (Label × Byte)) : Prop where
  nodup : (reads.map Prod.fst).Nodup
  sorted : reads.Pairwise fun r r' => (p.addrOf r.1).toNat ≤ (p.addrOf r'.1).toNat

theorem InspectRun.inOrder {s : State} {ls : List Label} {reads : List (Label × Byte)} {unread : Option Label}
    (h : InspectRun s (Machine.Params.byAddress s.params ls) reads unread) : InOrder s.params reads where
  nodup := (byAddress_nodup s.params ls).sublist h.labels_prefix.sublist
  sorted := by
    have hlabels := (byAddress_sorted s.params ls).sublist h.labels_prefix.sublist
    rwa [List.pairwise_map] at hlabels

section
variable {p : Params} {reads : List (Label × Byte)} {group : List Label} {last : Label} {mk : List Byte → ReportAttr}

/-- D14: what a group yields is due at its last register only, after the whole group has been read. -/
theorem InOrder.group_complete (h : InOrder p reads)
    (hasc : group.Pairwise fun l m => (p.addrOf l).toNat < (p.addrOf m).toNat) (hlast : group.getLast? = some last)
    {before after : List (Label × Byte)} {r : Label × Byte} (hreads : reads = before ++ r :: after) {a : ReportAttr}
    (ha : a ∈ groupAttr group mk r.1 (r :: before.reverse)) : r.1 = last ∧ ∀ l ∈ group, ∃ b, (l, b) ∈ reads := by
  obtain ⟨hr, bytes, hbytes, -⟩ := mem_groupAttr_iff.mp ha
  have hseen : ∀ l ∈ group, ∃ b, (l, b) = r ∨ (l, b) ∈ before := by
    simpa using mem_seen_of_groupBytes hbytes
  have hsorted := h.sorted
  rw [hreads, List.pairwise_append] at hsorted
  obtain ⟨-, -, hbefore⟩ := hsorted
  refine ⟨(eq_or_lt_getLast hasc hlast r.1 hr).resolve_right fun hlt => ?_, fun l hl => ?_⟩
  · obtain ⟨b, rfl | hb⟩ := hseen last (List.mem_of_getLast? hlast)
    · exact lt_irrefl _ hlt
    · exact absurd (hbefore _ hb r List.mem_cons_self) hlt.not_ge
  · obtain ⟨b, hb⟩ := hseen l hl
    exact ⟨b, by rw [hreads, List.mem_append, List.mem_cons]; tauto⟩

/-- R42, D14: when a group's last register is read, the bytes of the whole group are at hand. -/
theorem InOrder.group_bytes (h : InOrder p reads)
    (hasc : group.Pairwise fun l m => (p.addrOf l).toNat < (p.addrOf m).toNat) (hlast : group.getLast? = some last)
    {bytes : Label → Byte} (hbytes : ∀ l ∈ group, (l, bytes l) ∈ reads) :
    ∃ before after, reads = before ++ (last, bytes last) :: after ∧
      mk (group.map bytes) ∈ groupAttr group mk last ((last, bytes last) :: before.reverse) := by
  have hmem := List.mem_of_getLast? hlast
  obtain ⟨before, after, hreads⟩ := List.append_of_mem (hbytes last hmem)
  have hsorted := h.sorted
  rw [hreads, List.pairwise_append, List.pairwise_cons] at hsorted
  obtain ⟨-, ⟨hafter, -⟩, -⟩ := hsorted
  refine ⟨before, after, hreads, mem_groupAttr_iff.mpr ⟨hmem, _, groupBytes_of_lookup fun l hl => ?_, rfl⟩⟩
  refine lookup_eq_some_of_mem ?_ ?_
  · have hsublist : ((last, bytes last) :: before.reverse).Sublist reads.reverse := by simp [hreads]
    have hnodup : (reads.reverse.map Prod.fst).Nodup := by simpa using h.nodup
    exact hnodup.sublist (hsublist.map _)
  · have hread := hbytes l hl
    rw [hreads, List.mem_append, List.mem_cons] at hread
    rcases eq_or_lt_getLast hasc hlast l hl with rfl | hlt
    · exact List.mem_cons_self
    · rcases hread with hread | hread | hread
      · exact List.mem_cons_of_mem _ (List.mem_reverse.mpr hread)
      · exact hread ▸ List.mem_cons_self
      · exact absurd (hafter _ hread) hlt.not_ge

/-- R112, R115, R116: what a report says of a group whose addresses ascend. -/
theorem InOrder.groupReported (h : InOrder p reads)
    (hasc : group.Pairwise fun l m => (p.addrOf l).toNat < (p.addrOf m).toNat) (hlast : group.getLast? = some last)
    {t : State} (hreport : t.report = reportEntries p [] reads) {name : AttrName} (hfield : ∀ f, name ≠ .field f)
    (hname : ∀ bytes, (mk bytes).name = name)
    (hdue : ∀ l raw seen, derivedNamed p l raw seen name = groupAttr group mk l seen) :
    GroupReported t group last name mk := by
  rw [GroupReported, hreport]
  refine ⟨fun e he a ha heq => ?_, fun bytes hbytes => ?_⟩
  · obtain ⟨before, r, after, hreads, rfl⟩ := mem_reportEntries he
    rw [mem_attrs_iff (heq ▸ hfield), heq, hdue, List.append_nil] at ha
    obtain ⟨hr, hall⟩ := h.group_complete hasc hlast hreads ha
    refine ⟨hr, fun l hl => ?_⟩
    obtain ⟨b, hb⟩ := hall l hl
    obtain ⟨m, hm, hregister, -⟩ := exists_entry_iff.mpr hb
    exact ⟨m, hm, hregister⟩
  · obtain ⟨before, after, hreads, hmem⟩ :=
      h.group_bytes (mk := mk) hasc hlast fun l hl => exists_entry_iff.mp (hbytes l hl)
    refine ⟨_, hreads ▸ reportEntry_mem_reportEntries p [] before (last, bytes last) after, rfl, ?_⟩
    rwa [mem_attrs_iff (hname _ ▸ hfield), hname, hdue, List.append_nil]

end

/-- INSPECT reports registers of its set only (R110). -/
theorem InspectRun.register_mem {s : State} {ls : List Label} {reads : List (Label × Byte)} {unread : Option Label}
    (h : InspectRun s (Machine.Params.byAddress s.params ls) reads unread) {e : ReportEntry}
    (he : e ∈ reportEntries s.params [] reads) : e.register ∈ ls := by
  have hread : (e.register, e.raw) ∈ reads := exists_entry_iff.mp ⟨e, he, rfl, rfl⟩
  exact (mem_byAddress _ _ _).mp (h.labels_prefix.subset (List.mem_map_of_mem hread))

/-- Settles O40: both are groups of registers. -/
theorem wideValueAttributes : Obligations.WideValueAttributes := by
  intro s t ls _ hexec
  obtain ⟨reads, unread, answers, drawn, hrun, rfl⟩ := exists_run_of_exec hexec
  exact ⟨fun e he => hrun.register_mem he,
    fun hasc => hrun.inOrder.groupReported hasc rfl rfl nofun (fun _ => rfl) fun _ _ _ => rfl,
    fun hasc => hrun.inOrder.groupReported hasc rfl rfl nofun (fun _ => rfl) fun _ _ _ => rfl⟩

/-- R110: a register has one entry at most. -/
theorem InOrder.entry_unique {p : Params} {reads : List (Label × Byte)} (h : InOrder p reads) {e e' : ReportEntry}
    (he : e ∈ reportEntries p [] reads) (he' : e' ∈ reportEntries p [] reads) (heq : e.register = e'.register) :
    e = e' :=
  List.inj_on_of_nodup_map (by rw [reportEntries_register]; exact h.nodup) he he' heq

/-- R53, R110: a label of the set has an entry when every answer is Ok, with the device's byte under the ideal device. -/
theorem InspectRun.exists_entry {s : State} {ls : List Label} {reads : List (Label × Byte)} {unread : Option Label}
    (h : InspectRun s (Machine.Params.byAddress s.params ls) reads unread) (hok : s.env = .ideal ∨ NextOk s ls.length)
    {l : Label} (hl : l ∈ ls) :
    ∃ e ∈ reportEntries s.params [] reads, e.register = l ∧
      (s.env = .ideal → e.raw = s.devRead (s.params.addrOf l).toNat) := by
  have hlength : (Machine.Params.byAddress s.params ls).length ≤ ls.length :=
    ((sortByKey_perm _ _).length_eq).trans_le (List.dedup_sublist ls).length_le
  have hread : l ∈ reads.map Prod.fst := by rw [h.labels_eq hlength hok]; exact (mem_byAddress _ _ _).mpr hl
  obtain ⟨⟨l', b⟩, hmem, rfl⟩ := List.mem_map.mp hread
  obtain ⟨e, he, hregister, rfl⟩ := exists_entry_iff.mpr hmem
  exact ⟨e, he, hregister, fun hideal => h.answered.byte_of_ideal hideal hmem⟩

/-- Settles O39: the pair is a group of registers. -/
theorem effectiveBitRateAttribute : Obligations.EffectiveBitRateAttribute := by
  intro s t ls _ hlt hexec
  obtain ⟨reads, unread, answers, drawn, hrun, rfl⟩ := exists_run_of_exec hexec
  have hasc : bitrateGroup.Pairwise fun l m => (s.params.addrOf l).toNat < (s.params.addrOf m).toNat := by
    simpa [bitrateGroup] using hlt
  obtain ⟨hcomplete, hvalue⟩ : GroupReported (inspectedState s reads unread answers drawn) bitrateGroup .bitrateLsb
      .effectiveBitRate (bitRateAttr s.params.fxoscHz) :=
    hrun.inOrder.groupReported hasc rfl rfl nofun (fun _ => rfl) fun _ _ _ => rfl
  refine ⟨fun e he a ha hname => ?_, fun m hm e he hmsb hlsb => ⟨_, rfl, ?_⟩, fun hideal l hl => ?_⟩
  · obtain ⟨hregister, hall⟩ := hcomplete e he a ha hname
    obtain ⟨m, hm, hmsb⟩ := hall .bitrateMsb (by decide)
    exact ⟨hregister, hregister ▸ hrun.register_mem he, hmsb ▸ hrun.register_mem hm, m, hm, hmsb⟩
  · obtain ⟨e', he', hregister, hmem⟩ := hvalue (Function.update (fun _ => e.raw) .bitrateMsb m.raw) (by
      simpa [bitrateGroup] using ⟨⟨m, hm, hmsb, rfl⟩, ⟨e, he, hlsb, rfl⟩⟩)
    obtain rfl := hrun.inOrder.entry_unique he' he (hregister.trans hlsb.symm)
    simpa [bitRateAttr, bitrateGroup, natBE] using hmem
  · obtain ⟨e, he, hregister, hraw⟩ := hrun.exists_entry (.inl hideal) hl
    exact ⟨e, he, hregister, hraw hideal⟩

/-! ### The current limit (R114) -/

/-- R25, R80: DECODE of OCP under the default LAYOUT. -/
theorem decodeFields_p0_ocp (raw : Byte) : decodeFields (Params.p0.fieldsOf .ocp) raw =
    [(.ocpOn, .label (if raw.getLsbD 4 then .enabled else .disabled)), (.ocpTrim, .number (raw.toNat % 16))] := by
  revert raw
  decide

theorem fieldValue_p0_ocpTrim (raw : Byte) :
    fieldValue (Params.p0.fieldsOf .ocp) FieldName.ocpTrim.code raw = some (raw.toNat % 16) := by
  change some (raw.toNat / 2 ^ 0 % 2 ^ 4) = _
  simp

/-- R114: what the report says of OCP under the default LAYOUT. -/
def ocpAttrs (raw : Byte) : List ReportAttr :=
  [⟨.field .ocpOn, .reading (.label (if raw.getLsbD 4 then .enabled else .disabled)), none⟩,
   ⟨.field .ocpTrim, .reading (.number (raw.toNat % 16)), none⟩,
   ⟨.currentLimit, .number (45 + 5 * (raw.toNat % 16)), some .milliamp⟩]

theorem reportEntry_ocp {p : Params} (hlayout : p.layout = defaultLayout) (raw : Byte) (seen : List (Label × Byte)) :
    reportEntry p .ocp raw seen = ⟨.ocp, raw, ocpAttrs raw⟩ := by
  have hfields := fieldsOf_of_default hlayout .ocp
  simp [reportEntry, derivedAttrs, currentLimitAttr, hfields, decodeFields_p0_ocp, fieldValue_p0_ocpTrim, groupAttr,
    bitrateGroup, syncGroup, aesGroup, ocpAttrs]

/-- R114: no other register has a current limit. -/
theorem register_of_currentLimit {p : Params} {seen reads : List (Label × Byte)} {e : ReportEntry}
    (he : e ∈ reportEntries p seen reads) {a : ReportAttr} (ha : a ∈ e.attrs) (hname : a.name = .currentLimit) :
    e.register = .ocp := by
  obtain ⟨before, r, after, -, rfl⟩ := mem_reportEntries he
  rw [mem_attrs_iff (hname ▸ nofun), hname] at ha
  exact (mem_currentLimitAttr_iff.mp ha).1

/-- R114: the entry of OCP, in whatever inspection. -/
theorem attrs_of_ocp {p : Params} (hlayout : p.layout = defaultLayout) {seen reads : List (Label × Byte)}
    {e : ReportEntry} (he : e ∈ reportEntries p seen reads) (hregister : e.register = .ocp) :
    e.attrs = ocpAttrs e.raw := by
  obtain ⟨before, ⟨l, b⟩, after, -, rfl⟩ := mem_reportEntries he
  obtain rfl : l = .ocp := hregister
  rw [reportEntry_ocp hlayout]

/-- Settles O38: the report of OCP is the same in every inspection. -/
theorem currentLimitFormula : Obligations.CurrentLimitFormula := by
  intro s hlayout
  refine ⟨fun ls t hexec => ?_, fun raw hraw => ?_⟩
  · obtain ⟨reads, unread, answers, drawn, hrun, rfl⟩ := exists_run_of_exec hexec
    refine ⟨fun e he a ha hname => ?_, fun e he hocp => ⟨by omega, attrs_of_ocp hlayout he hocp⟩,
      fun hmem hok => hrun.exists_entry hok hmem⟩
    have hocp := register_of_currentLimit he ha hname
    rw [attrs_of_ocp hlayout he hocp] at ha
    simp only [ocpAttrs, List.mem_cons, List.not_mem_nil, or_false] at ha
    rcases ha with rfl | rfl | rfl
    · cases hname
    · cases hname
    · exact ⟨hocp, rfl⟩
  · have hanswer : answerAt s 0 .ocp = .ok raw := by
      rcases hraw with ⟨henv, rfl⟩ | ⟨henv, hok, rfl⟩
      · exact answerAt_ideal henv 0 .ocp
      · rw [answerAt_unconstrained henv, if_pos hok]
    have hanswered : Answered s [(.ocp, raw)] := answered_append_singleton (reads := []) nofun hanswer
    have hrun : InspectRun s (Machine.Params.byAddress s.params [.ocp]) [(.ocp, raw)] none := .finished hanswered rfl
    obtain ⟨answers, drawn, hexec, -⟩ := hrun.exec_eq
    refine ⟨_, hexec, fun _ => rfl, ?_⟩
    simp [OnlyTraced, inspectedState, readEvents, reportEntries, reportEntry_ocp hlayout, ocpAttrs]

end Sys2Proof
end

section
/-!
PROOFS. The packet encoder (spec/44_packet_encoder.md R130): a list repeated, its length and its entries, and with
them PAYLOAD.
-/

namespace Sys2Proof

open Machine

/-- Copies of one list in a row: place `i` holds what the list has at `i` modulo its length. -/
theorem getElem?_flatten_replicate {α : Type*} (unit : List α) (copies : ℕ) {i : ℕ}
    (hi : i < unit.length * copies) :
    (List.replicate copies unit).flatten[i]? = unit[i % unit.length]? := by
  induction copies generalizing i with
  | zero => omega
  | succ copies ih =>
    rw [Nat.mul_succ] at hi
    rw [List.replicate_succ, List.flatten_cons, List.getElem?_append]
    split
    case isTrue hfirst => rw [Nat.mod_eq_of_lt hfirst]
    case isFalse hlater => rw [ih (by omega), ← Nat.mod_eq_sub_mod (by omega)]

/-- R130: the length of PAYLOAD. -/
theorem payload_length (p : Params) : p.payload.length = p.signalUnit.length * p.unitRepeat := by
  simp [Params.payload, Nat.mul_comm]

/-- R130: the bytes of PAYLOAD. -/
theorem getElem?_payload (p : Params) {i : ℕ} (hi : i < p.payload.length) :
    p.payload[i]? = p.signalUnit[i % p.signalUnit.length]? :=
  getElem?_flatten_replicate p.signalUnit p.unitRepeat (payload_length p ▸ hi)

/-- R130: ENCODE returns PAYLOAD and does nothing else. -/
theorem exec_encode (s : State) : exec .encode s = .next { s with ret := some (.payload s.params.payload) } := rfl

/-- Settles O9: what ENCODE returns is PAYLOAD, a function of the parameters alone. -/
theorem encodeReturnsRepeatedUnit : Obligations.EncodeReturnsRepeatedUnit := by
  intro s
  refine ⟨s.params.payload, exec_encode s, payload_length s.params, fun i hi => getElem?_payload s.params hi,
    fun t hparams => ?_⟩
  rw [exec_encode, hparams]

end Sys2Proof
end

section
/-!
PROOFS. The eight transactions invoked on their own (spec/45_transmission_loop.md R140 to R147), the start of a job
(R148, R149), and what the host reads of its end (R158).
-/

namespace Sys2Proof

open Machine Safety Laws

/-! ### Which registers of the device a transaction can change (R53) -/

/-- R52, R53: what SETMODE, WAITRDY and SEND leave in `dev` differs at the mode register alone, and nowhere in the
unconstrained environment. -/
theorem devRead_of_devAfterMode {s : State} (t : State) (hdev : t.dev = s.devAfterMode)
    (hepoch : t.devEpoch = s.devEpoch) {x : Nat}
    (hx : x ≠ (s.params.addrOf .opmode).toNat ∨ s.env = .unconstrained) : t.devRead x = s.devRead x := by
  rw [State.devRead, State.devRead, hdev, hepoch, State.devAfterMode]
  cases henv : s.env with
  | ideal =>
    have hne := hx.resolve_right (by simp [henv])
    rw [memory_read_write_of_ne s.dev _ hne]
  | unconstrained => rfl

/-- The abort path touches no register of the device where its error touches none (R157, R197). -/
theorem abort_sameDevice_of_untouched {s : State} {e : FatalError} (h : s.deviceAfterError e = s) :
    SameDevice s (s.abort e) := fun x => by
  rw [State.devRead, State.devRead, abort_dev, abort_devEpoch, h]

/-! ### Transactions and what their failure raises (R140, R144, R145) -/

theorem setMode_of_ok {s : State} (h : s.nextDraw.ok = true) (m : Mode) : s.setMode m = s.setmodeTxn m :=
  if_pos h

theorem setMode_of_err {s : State} (h : s.nextDraw.ok = false) (m : Mode) :
    s.setMode m = (s.setmodeTxn m).abort (.writeFailed .opmode) :=
  if_neg (by simp [h])

theorem waitReady_of_ok {s : State} (h : s.nextDraw.ok = true) (d : Ticks) : s.waitReady d = s.waitrdyTxn d :=
  if_pos h

theorem waitReady_of_err {s : State} (h : s.nextDraw.ok = false) (d : Ticks) :
    s.waitReady d = (s.waitrdyTxn d).abort .modeTimeout :=
  if_neg (by simp [h])

theorem acquire_of_ok {s : State} (h : s.nextDraw.ok = true) : s.acquire = s.acquireTxn :=
  if_pos h

theorem acquire_of_err {s : State} (h : s.nextDraw.ok = false) :
    s.acquire = s.acquireTxn.abort .deviceUnavailable :=
  if_neg (by simp [h])

/-- The event of an answered mode request, and that of a failed one (R144). -/
theorem setmodeTxn_onlyTraced_of_ok {s : State} (h : s.nextDraw.ok = true) (m : Mode) :
    OnlyTraced s (s.setmodeTxn m) [.setmode m .ok] :=
  nextAnswer_of_ok h ▸ setmodeTxn_onlyTraced s m

theorem setmodeTxn_onlyTraced_of_err {s : State} (h : s.nextDraw.ok = false) (m : Mode) :
    OnlyTraced s (s.setmodeTxn m) [.setmode m .err] :=
  nextAnswer_of_err h ▸ setmodeTxn_onlyTraced s m

/-- The event of a mode wait that ended in time, and that of one that did not (R145). -/
theorem waitrdyTxn_onlyTraced_of_ok {s : State} (h : s.nextDraw.ok = true) (d : Ticks) :
    OnlyTraced s (s.waitrdyTxn d) [.waitrdy d true] :=
  h ▸ waitrdyTxn_onlyTraced s d

theorem waitrdyTxn_onlyTraced_of_err {s : State} (h : s.nextDraw.ok = false) (d : Ticks) :
    OnlyTraced s (s.waitrdyTxn d) [.waitrdy d false] :=
  h ▸ waitrdyTxn_onlyTraced s d

/-- R53, R145: the mode wait changes at most the mode register, whatever its answer. -/
theorem waitReady_devRead_frame {s : State} {x : Nat}
    (hx : x ≠ (s.params.addrOf .opmode).toNat ∨ s.env = .unconstrained) (d : Ticks) :
    (s.waitReady d).devRead x = s.devRead x := by
  have htxn : (s.waitrdyTxn d).devRead x = s.devRead x := devRead_of_devAfterMode (s.waitrdyTxn d) rfl rfl hx
  cases hok : s.nextDraw.ok
  · rw [waitReady_of_err hok]
    exact (abort_sameDevice_of_untouched (s := s.waitrdyTxn d) rfl x).trans htxn
  · rwa [waitReady_of_ok hok]

/-- R36, R140: the registers of the device after ACQUIRE, answered Ok or Err. -/
theorem acquire_acquiredDevice (s : State) : AcquiredDevice s s.acquire := by
  have htxn := acquireTxn_device s
  cases hok : s.nextDraw.ok
  · rw [acquire_of_err hok]
    simpa [AcquiredDevice, SameDevice, Indeterminate, State.devRead, abort_dev, abort_devEpoch,
      State.deviceAfterError] using htxn
  · rwa [acquire_of_ok hok]

/-! ### The obligations -/

/-- Settles O20: ACQUIRE's transaction, and after a failure the abort path. -/
theorem acquireTakesOrAborts : Obligations.AcquireTakesOrAborts := by
  intro s
  rw [← nextDraw_eq]
  refine ⟨s.acquire, rfl, acquire_acquiredDevice s, fun hok => ?_, fun herr => ?_⟩
  · rw [acquire_of_ok hok]
    simp [OnlyTraced, State.acquireTxn, State.dropDraw, hok, nextAnswer_of_ok hok]
  · rw [acquire_of_err herr, AbortsWith, abort_eq]
    simp [State.acquireTxn, State.dropDraw, releaseEvents, herr, nextAnswer_of_err herr]

/-- Settles O21, by the definition of RELEASE's transaction. -/
theorem releaseGivesDeviceBack : Obligations.ReleaseGivesDeviceBack := fun _ => rfl

/-- Settles O22: RDREG traces what it is answered, and writes no register of the device. -/
theorem rdregReadsOneByte : Obligations.RdregReadsOneByte := by
  intro s a
  rw [← nextDraw_eq]
  refine ⟨_, s.readAnswer a, rfl, fun _ => rfl, rfl, fun hideal => readAnswer_ideal hideal a,
    fun hfree hok => ?_, fun hfree herr => ?_⟩
  · simp [State.readAnswer, hfree, hok]
  · simp [State.readAnswer, hfree, herr]

/-- Settles O23: WRREG is one write of a byte, reported under the label of its address. -/
theorem wrregWritesOneByte : Obligations.WrregWritesOneByte := fun s a v => ⟨_, rfl, memWrite_writesByte s a v⟩

/-- Settles O25: SETMODE's transaction, and after a failure the abort path. -/
theorem setmodeRequestsMode : Obligations.SetmodeRequestsMode := by
  intro s m
  rw [← nextDraw_eq]
  have hframe {x : Nat} (hx : x ≠ (s.params.addrOf .opmode).toNat ∨ s.env = .unconstrained) :
      (s.setmodeTxn m).devRead x = s.devRead x := devRead_of_devAfterMode (s.setmodeTxn m) rfl rfl hx
  refine ⟨s.setMode m, rfl, fun hok => ?_, fun herr => ?_⟩
  · rw [setMode_of_ok hok]
    exact ⟨setmodeTxn_onlyTraced_of_ok hok m, fun x => hframe⟩
  · rw [setMode_of_err herr]
    have hkept (h : s.owned = false ∨ s.env = .unconstrained) :=
      abort_sameDevice (s := s.setmodeTxn m) h (.writeFailed .opmode)
    exact ⟨abort_abortsWith (setmodeTxn_onlyTraced_of_err herr m) _,
      fun hu x => (hkept (.inr hu) x).trans (hframe (.inr hu)),
      fun ho x hx => (hkept (.inl ho) x).trans (hframe (.inl hx))⟩

/-- Settles O26: WAITRDY's transaction, and after a timeout the abort path. -/
theorem waitrdyAlwaysAnswers : Obligations.WaitrdyAlwaysAnswers := by
  intro s d
  rw [← nextDraw_eq]
  refine ⟨s.waitReady d, rfl, fun x hx => waitReady_devRead_frame hx d, fun hok => ?_, fun herr => ?_⟩
  · rw [waitReady_of_ok hok]
    exact waitrdyTxn_onlyTraced_of_ok hok d
  · rw [waitReady_of_err herr]
    exact abort_abortsWith (waitrdyTxn_onlyTraced_of_err herr d) _

/-- Settles O27: SEND's transaction takes no branch on its answer. -/
theorem sendCountsOneCall : Obligations.SendCountsOneCall := by
  intro s payload attempts ack
  rw [← nextDraw_eq]
  exact ⟨_, rfl, rfl, fun x hx => devRead_of_devAfterMode (s.sendTxn payload attempts ack) rfl rfl hx⟩

/-- Settles O28, by the definition of SLEEP's transaction. -/
theorem sleepAddsTicks : Obligations.SleepAddsTicks := fun _ _ => rfl

/-- R149: ACQUIRE answered Ok leads to Configuring. -/
theorem startJob_of_ok {s : State} (h : s.nextDraw.ok = true) :
    s.startJob = { s.acquireTxn with state := .configuring, step := 0 } := by
  rw [State.startJob, if_pos h, acquire_of_ok h]

/-- R149: ACQUIRE answered Err leads to Aborted. -/
theorem startJob_of_err {s : State} (h : s.nextDraw.ok = false) :
    s.startJob = s.acquireTxn.abort .deviceUnavailable := by
  rw [State.startJob, if_neg (by simp [h]), acquire_of_err h]

/-- R149: the start of a job does to the device what its ACQUIRE does. -/
theorem startJob_acquiredDevice (s : State) : AcquiredDevice s s.startJob := by
  have hacquire := acquire_acquiredDevice s
  unfold State.startJob
  split <;> exact hacquire

/-- Settles O19: RUN in Idle is ACQUIRE from the cleared registers, and the control point its answer leads to. -/
theorem runStartsJob : Obligations.RunStartsJob := by
  intro s diag dry
  refine ⟨fun hidle hfree => ⟨(s.clearJob diag dry).startJob, ?_, startJob_acquiredDevice (s.clearJob diag dry), ?_⟩,
    fun hbusy => ?_⟩
  · exact (execRun_eq diag dry s).trans (by rw [if_pos hidle])
  · have hdraw : (s.clearJob diag dry).nextDraw = drawAt s 0 := nextDraw_eq s
    rw [← hdraw]
    refine ⟨fun hok => ?_, fun herr => ?_⟩
    · rw [startJob_of_ok hok]
      simp [hok, nextAnswer_of_ok hok]
    · rw [startJob_of_err herr, abort_eq]
      simp [hfree, herr, nextAnswer_of_err herr, releaseEvents]
  · exact (execRun_eq diag dry s).trans (by rw [if_neg hbusy])

/-- Settles O56: both are functions of RESULT, and the record is its six latches by definition. -/
theorem hostReadsResult : Obligations.HostReadsResult := by
  intro s
  have hsuccess : s.success = true ↔ s.result = some .ok := by simp [State.success]
  refine ⟨hsuccess, ?_, ?_, rfl⟩
  · simp [State.exitStatus, hsuccess]
  · unfold State.exitStatus
    split
    · exact .inl rfl
    · exact .inr rfl

end Sys2Proof
end

section
/-!
PROOFS. The actions of a running job (spec/45_transmission_loop.md R150 to R156): the equation of each control point,
what it leaves in the device (R53), and that under the job invariant there always is one (R159).
-/

namespace Sys2Proof

open Machine Safety Laws

/-! ### The action of Configuring, STEP by STEP (R150 to R152) -/

/-- R162: with nothing at the port a step is the action of the control point. -/
theorem step_eq_action {s : State} (hwf : s.params.wf = true) (hport : s.port = none) : step s = s.action := by
  simp [step, hwf, hport]

theorem step_of_configuring {s : State} (hwf : s.params.wf = true) (hport : s.port = none)
    (hs : s.state = .configuring) : step s = .next s.configAction := by
  rw [step_eq_action hwf hport, State.action, hs]

/-- R150: STEP 0 requests the mode Standby. -/
theorem configAction_setMode {s : State} (h : s.step.val = 0) :
    s.configAction = if s.nextDraw.ok then (s.setmodeTxn .standby).advanceStep
      else (s.setmodeTxn .standby).abort (.writeFailed .opmode) := by
  rw [State.configAction, if_pos h, State.advanceIf]
  split
  · next hok => rw [setMode_of_ok hok]
  · next herr => rw [setMode_of_err (Bool.eq_false_iff.mpr herr)]

/-- R150: STEP 1 waits for the mode. -/
theorem configAction_waitReady {s : State} (h : s.step.val = 1) :
    s.configAction = if s.nextDraw.ok then (s.waitrdyTxn s.params.maxWait).advanceStep
      else (s.waitrdyTxn s.params.maxWait).abort .modeTimeout := by
  rw [State.configAction, if_neg (by omega), if_pos h, State.advanceIf]
  split
  · next hok => rw [waitReady_of_ok hok]
  · next herr => rw [waitReady_of_err (Bool.eq_false_iff.mpr herr)]

/-- R151: STEP 2 + i writes entry i of CFGTABLE. -/
theorem configAction_write {s : State} {i : Nat} {w : Label × Byte} (hwf : s.params.wf = true)
    (h : s.step.val = 2 + i) (hw : (cfgWords s.params)[i]? = some w) :
    s.configAction = if s.nextDraw.ok then (s.wrregTxn (s.params.addrOf w.1) w.2).advanceStep
      else (s.wrregTxn (s.params.addrOf w.1) w.2).abort (.writeFailed w.1) := by
  have hentry : s.params.cfgTable[s.step.val - 2]? = some ⟨w.1, .byte w.2⟩ := by
    rw [cfgTable_eq_map_cfgWords hwf, List.getElem?_map, h, Nat.add_sub_cancel_left, hw]
    rfl
  rw [State.configAction, if_neg (by omega), if_neg (by omega), hentry]
  simp only [runEntries_single, State.advanceIf]
  split <;> rfl

/-- R152: STEP 16 is the transition to Ready. -/
theorem configAction_ready {s : State} (h : s.step = 16) : s.configAction = { s with state := .ready } := by
  have hend : s.params.cfgTable[14]? = none := rfl
  simp [State.configAction, h, hend]

/-- R11: the control points of Configuring. -/
theorem configStep_cases {s : State} (hwf : s.params.wf = true) :
    s.step.val = 0 ∨ s.step.val = 1 ∨
      (∃ i w, s.step.val = 2 + i ∧ (cfgWords s.params)[i]? = some w) ∨ s.step = 16 := by
  by_cases hwrite : 2 ≤ s.step.val ∧ s.step.val < 16
  · have hi : s.step.val - 2 < (cfgWords s.params).length := by rw [cfgWords_length hwf]; omega
    exact .inr (.inr (.inl ⟨s.step.val - 2, _, by omega, List.getElem?_eq_getElem hi⟩))
  · have hlast : s.step.val = 16 → s.step = 16 := fun h => Fin.ext h
    omega

/-- R11: a completed action moves STEP on to the next control point. -/
theorem advanceStep_onlyTraced {s u : State} {events : List Event} (h : OnlyTraced s u events) {n : Fin 17}
    (hn : s.step.val + 1 = n.val) : OnlyTraced { s with step := n } u.advanceStep events := by
  obtain ⟨answers, drawn, dev, rfl⟩ := exists_eq_of_onlyTraced h
  obtain rfl : n = ⟨min (s.step.val + 1) 16, Nat.lt_succ_of_le (Nat.min_le_right _ _)⟩ :=
    Fin.ext (by dsimp only; omega)
  rfl

/-- R157: a job under way, its events followed by the abort path. -/
theorem abort_abortsWith_release {s u : State} {events : List Event} (h : OnlyTraced s u events)
    (howned : s.owned = true) (e : FatalError) : AbortsWith s (u.abort e) e (events ++ [.release]) := by
  have hrelease : releaseEvents s = [.release] := if_pos howned
  exact hrelease ▸ abort_abortsWith h e

theorem wrregTxn_onlyTraced_of_ok {s : State} (h : s.nextDraw.ok = true) (a v : Byte) :
    OnlyTraced s (s.wrregTxn a v) [.wrreg a v .ok] :=
  nextAnswer_of_ok h ▸ wrregTxn_onlyTraced s a v

theorem wrregTxn_onlyTraced_of_err {s : State} (h : s.nextDraw.ok = false) (a v : Byte) :
    OnlyTraced s (s.wrregTxn a v) [.wrreg a v .err] :=
  nextAnswer_of_err h ▸ wrregTxn_onlyTraced s a v

/-- Settles O41: the equation of each STEP, its transaction answered Ok or Err. -/
theorem configuringActions : Obligations.ConfiguringActions := by
  intro s hwf hport hs howned
  have hlength := cfgWords_length hwf
  rw [← nextDraw_eq]
  refine ⟨s.configAction, step_of_configuring hwf hport hs, fun h hok => ?_, fun h herr => ?_, fun h hok => ?_,
    fun h herr => ?_, fun i w h hw hok => ?_, fun i w h hw herr => ?_, configAction_ready, hlength⟩
  · rw [configAction_setMode (by simp [h]), if_pos hok]
    exact advanceStep_onlyTraced (setmodeTxn_onlyTraced_of_ok hok _) (by simp [h])
  · rw [configAction_setMode (by simp [h]), if_neg (by simp [herr])]
    exact abort_abortsWith_release (setmodeTxn_onlyTraced_of_err herr _) howned _
  · rw [configAction_waitReady (by simp [h]), if_pos hok]
    exact advanceStep_onlyTraced (waitrdyTxn_onlyTraced_of_ok hok _) (by simp [h])
  · rw [configAction_waitReady (by simp [h]), if_neg (by simp [herr])]
    exact abort_abortsWith_release (waitrdyTxn_onlyTraced_of_err herr _) howned _
  · have hi : i < 14 := hlength ▸ (List.getElem?_eq_some_iff.mp hw).1
    rw [configAction_write hwf h hw, if_pos hok]
    exact advanceStep_onlyTraced (wrregTxn_onlyTraced_of_ok hok _ _) (by simp [Fin.ofNat, h]; omega)
  · rw [configAction_write hwf h hw, if_neg (by simp [herr])]
    exact abort_abortsWith_release (wrregTxn_onlyTraced_of_err herr _ _) howned _

/-! ### What Configuring leaves in the device (R53) -/

/-- R52: the unconstrained environment has no `dev` that Configuring could change. -/
theorem configAction_sameDevice {s : State} (hwf : s.params.wf = true) (henv : s.env = .unconstrained) :
    SameDevice s s.configAction := by
  intro x
  rcases configStep_cases hwf with h | h | ⟨i, w, h, hw⟩ | h
  · have htxn := devRead_of_devAfterMode (s.setmodeTxn .standby) rfl rfl (x := x) (.inr henv)
    rw [configAction_setMode h]
    split
    · exact htxn
    · exact (abort_sameDevice (s := s.setmodeTxn .standby) (.inr henv) _ x).trans htxn
  · have htxn := devRead_of_devAfterMode (s.waitrdyTxn s.params.maxWait) rfl rfl (x := x) (.inr henv)
    rw [configAction_waitReady h]
    split
    · exact htxn
    · exact (abort_sameDevice (s := s.waitrdyTxn s.params.maxWait) (.inr henv) _ x).trans htxn
  · have htxn := wrregTxn_devRead_frame (s := s) (a := s.params.addrOf w.1) (x := x) (.inr henv) w.2
    rw [configAction_write hwf h hw]
    split
    · exact htxn
    · exact (abort_sameDevice (s := s.wrregTxn (s.params.addrOf w.1) w.2) (.inr henv) _ x).trans htxn
  · rw [configAction_ready h]
    rfl

/-- R53, R150: the mode request answered Ok, and the mode wait, change at most the mode register. -/
theorem configAction_mode_frame {s : State} (h : s.step.val = 0 ∧ s.nextDraw.ok = true ∨ s.step.val = 1) {x : Nat}
    (hx : x ≠ (s.params.addrOf .opmode).toNat) : s.configAction.devRead x = s.devRead x := by
  rcases h with ⟨h, hok⟩ | h
  · rw [configAction_setMode h, if_pos hok]
    exact devRead_of_devAfterMode (s.setmodeTxn .standby) rfl rfl (.inl hx)
  · have htxn := devRead_of_devAfterMode (s.waitrdyTxn s.params.maxWait) rfl rfl (.inl hx)
    rw [configAction_waitReady h]
    split
    · exact htxn
    · exact (abort_sameDevice_of_untouched (s := s.waitrdyTxn s.params.maxWait) rfl x).trans htxn

/-- Settles O57: each STEP writes the registers its transaction writes. -/
theorem jobWritesReachDevice : Obligations.JobWritesReachDevice := by
  intro s hwf hport hs _
  rw [← nextDraw_eq]
  refine ⟨s.configAction, step_of_configuring hwf hport hs, ?_, fun i w h hw hok hideal => ?_, fun h l hl => ?_⟩
  · rintro (henv | h)
    · exact configAction_sameDevice hwf henv
    · rw [configAction_ready (Fin.ext h)]
      exact fun _ => rfl
  · rw [configAction_write hwf h hw, if_pos hok]
    exact ⟨wrregTxn_devRead_same hideal hok _ _, fun x hx => wrregTxn_devRead_frame (.inl hx) _⟩
  · exact configAction_mode_frame h fun heq => hl (addrOf_injective hwf (BitVec.eq_of_toNat_eq heq))

/-! ### Ready (R153, R154) -/

theorem step_of_ready {s : State} (hwf : s.params.wf = true) (hport : s.port = none) (hs : s.state = .ready) :
    step s = .next s.readyAction := by
  rw [step_eq_action hwf hport, State.action, hs]

/-- R110: INSPECT of modelled labels. -/
theorem exec_inspect_codes (s : State) (ls : List Label) :
    exec (.inspect (ls.map (fun l => BitVec.ofNat 8 l.code.val))) s
      = .next { s.inspectLabels ls with ret := some (.inspected (s.inspectLabels ls).inspectErr) } := by
  change execInspect _ s = _
  rw [execInspect, resolveLabels_codes]

/-- R153: the inspection keeps the registers that Ready's two branches write or claims speak of. -/
theorem readyInspect_kept (s : State) :
    s.readyInspect.state = s.state ∧ s.readyInspect.owned = s.owned ∧ s.readyInspect.result = s.result ∧
      s.readyInspect.sendCalls = s.sendCalls := by
  obtain ⟨_, _, _, _, _, -, -, heq⟩ := readyInspect_eq s
  rw [heq]
  exact ⟨rfl, rfl, rfl, rfl⟩

/-- Settles O42: the inspection of Ready is INSPECT's, after which the loop starts or the job finishes. -/
theorem readyInspectsThenStartsLoop : Obligations.ReadyInspectsThenStartsLoop := by
  intro s hwf hport hs
  obtain ⟨hstate, howned, hresult, hcalls⟩ := readyInspect_kept s
  refine ⟨s.readyInspect, fun hdiag => ?_, fun hdiag => ?_, hstate, howned, hresult, hcalls, fun hpos => ?_,
    fun hzero => ?_⟩
  · rw [State.readyInspect, if_neg (by simp [hdiag])]
  · rw [State.readyInspect, if_pos hdiag]
    exact ⟨_, exec_inspect_codes s _⟩
  · rw [step_of_ready hwf hport hs, State.readyAction, if_neg hpos]
  · rw [step_of_ready hwf hport hs, State.readyAction, if_pos hzero]
    rfl

/-! ### Sending (R155, R156) -/

theorem step_of_sending {s : State} (hwf : s.params.wf = true) (hport : s.port = none) (hs : s.state = .sending)
    (hone : 1 ≤ s.k.toNat) (hle : s.k.toNat ≤ s.params.repeatCount.toNat) : step s = .next s.sendAction := by
  rw [step_eq_action hwf hport, State.action, hs]
  exact if_pos ⟨hone, hle⟩

/-- R53, R155: an iteration changes at most the mode register, and no register in a dry run. -/
theorem sendAction_devRead_frame {s : State} {x : Nat}
    (hx : s.dry = true ∨ x ≠ (s.params.addrOf .opmode).toNat ∨ s.env = .unconstrained) :
    s.sendAction.devRead x = s.devRead x := by
  have hsend : s.iterationSend.devRead x = s.devRead x := by
    unfold State.iterationSend
    split
    · rfl
    · next hlive =>
      refine devRead_of_devAfterMode _ ?_ ?_ (hx.resolve_left hlive)
      · rw [noteSend_dev, sendTxn_dev]
      · rw [noteSend_devEpoch, sendTxn_devEpoch]
  have hsleep : s.iterationSend.iterationSleep.devRead x = s.devRead x := by
    rw [iterationSleep_eq]
    exact hsend
  unfold State.sendAction
  split <;> exact hsleep

/-- One iteration, register by register (R155), and the finish path after the last (R156). -/
theorem sendAction_eq (s : State) :
    ∃ dev answers drawn, s.sendAction = { s with
      state := if s.k.toNat < s.params.repeatCount.toNat then s.state else .idle
      k := if s.k.toNat < s.params.repeatCount.toNat then s.k + 1#32 else s.k
      owned := if s.k.toNat < s.params.repeatCount.toNat then s.owned else false
      result := if s.k.toNat < s.params.repeatCount.toNat then s.result else some .ok
      sendFail := if s.dry ∨ s.nextDraw.ok then s.sendFail else s.sendFail ++ [s.k]
      sendCalls := s.sendCalls + (sendEvents s).countP isSend
      elapsed := s.elapsed + ((sleepEvents s.params s.k.toNat).map sleepTicks).sum
      trace := s.trace ++ sendEvents s ++ sleepEvents s.params s.k.toNat
        ++ if s.k.toNat < s.params.repeatCount.toNat then [] else [.release]
      dev := dev
      answers := answers
      drawn := drawn } := by
  obtain ⟨dev, answers, drawn, heq⟩ := iterationSend_eq s
  refine ⟨dev, answers, drawn, ?_⟩
  unfold State.sendAction
  rw [iterationSleep_eq, heq]
  split
  · rw [List.append_nil]
  · rfl

/-- Settles O43: the registers of one iteration, and those of the device. -/
theorem sendingIteration : Obligations.SendingIteration := by
  intro s hwf hport hs hone hle
  obtain ⟨dev, answers, drawn, heq⟩ := sendAction_eq s
  refine ⟨s.sendAction, step_of_sending hwf hport hs hone hle, decide (s.k.toNat < s.params.repeatCount.toNat),
    decide (s.k.toNat < s.params.repeatCount.toNat ∨ s.params.trailingDelay), by simp, by simp, ?_,
    fun h x => sendAction_devRead_frame (h.imp_right .inr), fun x hx => sendAction_devRead_frame (.inr (.inl hx))⟩
  have hcalls : s.sendCalls + (sendEvents s).countP isSend = if s.dry then s.sendCalls else s.sendCalls + 1 := by
    rw [countP_isSend_sendEvents]
    split <;> rfl
  have hticks : s.elapsed + ((sleepEvents s.params s.k.toNat).map sleepTicks).sum =
      if s.k.toNat < s.params.repeatCount.toNat ∨ s.params.trailingDelay then s.elapsed + s.params.interPacketDelay
      else s.elapsed := by
    unfold sleepEvents
    split <;> simp [sleepTicks]
  rw [heq, hcalls, hticks, ← nextDraw_eq]
  cases hdry : s.dry <;> cases hok : s.nextDraw.ok <;> simp [sendEvents, sleepEvents, hdry, hok, hs]

/-! ### Under the job invariant there is a next state (R159, R203) -/

/-- R190: between jobs block reset has a meaning. -/
theorem stepRequest_reset_of_not_busy {s : State} (h : s.busy = false) :
    s.stepRequest .reset = .next s.blockReset := by
  rw [show s.stepRequest .reset = s.resetRequest from rfl, State.resetRequest, if_neg (by simp [h])]

/-- Settles O53: the invariant bounds K in Sending, and the host's requests always have a meaning between jobs. -/
theorem blockNeverStops : Obligations.BlockNeverStops := by
  intro s h hreset
  simp only [step_eq_next_iff, h.wf, true_and]
  cases hport : s.port with
  | none =>
    suffices ∃ t, s.action = .next t from this.imp fun _ ht => .inl ⟨rfl, ht⟩
    unfold State.action
    cases hs : s.state
    case sending =>
      obtain ⟨-, hone, hle, -⟩ := h.sending hs
      exact ⟨_, if_pos ⟨hone, hle⟩⟩
    all_goals exact ⟨_, rfl⟩
  | some r =>
    suffices ∃ t, State.stepRequest { s with port := none } r = .next t from
      this.imp fun _ ht => .inr ⟨r, rfl, ht⟩
    obtain rfl | ⟨w, rfl⟩ := h.port r hport
    · exact ⟨_, stepRequest_reset_of_not_busy (hreset hport)⟩
    · rcases stepRequest_command { s with port := none } w with ⟨-, diag, dry, heq⟩ | heq
      · exact ⟨_, heq⟩
      · exact ⟨_, heq⟩

end Sys2Proof
end

section
/-!
PROOFS. ACQUIRE and RELEASE in a job's TRACE (spec/45_transmission_loop.md R140, R141, R161): one ACQUIRE, first, and
one RELEASE, by the step that ends the job.
-/

namespace Sys2Proof

open Machine Safety Laws

/-! ### The events between ACQUIRE and RELEASE (R161) -/

/-- Neither an ACQUIRE nor a RELEASE: an event while the device is held. -/
def isInner (e : Event) : Bool :=
  !isAcquire e && e != .release

/-- An answer made true is the same transaction (R175). -/
theorem isInner_unanswered (e : Event) : isInner (unanswered e) = isInner e := by
  cases e <;> rfl

theorem isInner_of_isRead {e : Event} (h : isRead e = true) : isInner e = true := by
  cases e with
  | rdreg => rfl
  | _ => cases h

/-- A TRACE of one ACQUIRE, answered Ok, followed by events while the device is held. -/
def Held (es : List Event) : Prop :=
  ∃ inner, es = .acquire .ok :: inner ∧ inner.all isInner = true

theorem Held.append {es more : List Event} (h : Held es) (hmore : more.all isInner = true) : Held (es ++ more) := by
  obtain ⟨inner, rfl, hinner⟩ := h
  exact ⟨inner ++ more, rfl, by rw [List.all_append, hinner, hmore]; rfl⟩

/-- Which SENDs are answered true is no matter (R175). -/
theorem Held.of_map_unanswered {es : List Event} (h : Held (es.map unanswered)) : Held es := by
  obtain ⟨inner, heq, hinner⟩ := h
  obtain ⟨e, es, rfl, he, rfl⟩ := List.map_eq_cons_iff.mp heq
  refine ⟨es, ?_, ?_⟩
  · cases e <;> cases he
    rfl
  · simpa [isInner_unanswered] using hinner

theorem Held.ne_nil {es : List Event} (h : Held es) : es ≠ [] := by
  obtain ⟨inner, rfl, -⟩ := h
  exact List.cons_ne_nil _ _

theorem Held.head? {es : List Event} (h : Held es) : es.head? = some (.acquire .ok) := by
  obtain ⟨inner, rfl, -⟩ := h
  rfl

theorem Held.countP_isAcquire {es : List Event} (h : Held es) : es.countP isAcquire = 1 := by
  obtain ⟨inner, rfl, hinner⟩ := h
  have hnone : inner.countP isAcquire = 0 := List.countP_eq_zero.mpr fun e he hacquire => by
    have := List.all_eq_true.mp hinner e he
    simp [isInner, hacquire] at this
  rw [List.countP_cons_of_pos rfl, hnone]

theorem Held.release_not_mem {es : List Event} (h : Held es) : .release ∉ es := by
  obtain ⟨inner, rfl, hinner⟩ := h
  rintro (_ | ⟨_, hmem⟩)
  exact absurd (List.all_eq_true.mp hinner _ hmem) (by decide)

/-- R161: Configuring adds its actions to the ACQUIRE. -/
theorem held_configTrace (p : Params) (n : Nat) : Held (configTrace p n) := by
  refine ⟨([Event.setmode .standby .ok, .waitrdy p.maxWait true] ++ writeEvents p (cfgWords p)).take n, rfl,
    List.all_eq_true.mpr fun e he => ?_⟩
  rcases List.mem_append.mp (List.mem_of_mem_take he) with he | he
  · simp only [List.mem_cons, List.not_mem_nil, or_false] at he
    rcases he with rfl | rfl <;> rfl
  · obtain ⟨w, -, rfl⟩ := List.mem_map.mp he
    rfl

theorem isInner_of_failedAction {p : Params} {n : Nat} {e : FatalError} {event : Event}
    (h : failedAction p n = some (e, event)) : isInner event = true := by
  match n with
  | 0 => cases h; rfl
  | 1 => cases h; rfl
  | i + 2 =>
    obtain ⟨w, -, hw⟩ := Option.map_eq_some_iff.mp h
    cases hw
    rfl

/-- R155: an iteration sends and sleeps, and does nothing else. -/
theorem loopEvents_all_isInner (p : Params) (dry : Bool) (n : Nat) : (loopEvents p dry n).all isInner = true := by
  refine List.all_eq_true.mpr fun e he => ?_
  obtain ⟨i, -, hi⟩ := List.mem_flatMap.mp he
  rcases List.mem_append.mp hi with hi | hi <;> split at hi
  · cases hi
  · rw [List.mem_singleton.mp hi]; rfl
  · rw [List.mem_singleton.mp hi]; rfl
  · cases hi

/-- R153, R155, R161: the configuration, the reads of an inspection, and iterations. -/
theorem held_of_loop {p : Params} {reads es : List Event} {dry : Bool} {n : Nat} (hreads : reads.all isRead = true)
    (h : es.map unanswered = configTrace p 16 ++ reads ++ loopEvents p dry n) : Held es := by
  have hinner : reads.all isInner = true :=
    List.all_eq_true.mpr fun e he => isInner_of_isRead (List.all_eq_true.mp hreads e he)
  refine .of_map_unanswered ?_
  rw [h]
  exact ((held_configTrace p 16).append hinner).append (loopEvents_all_isInner p dry n)

/-! ### TRACE of a running and of an ended job -/

/-- While a job runs the device is held. -/
theorem held_of_busy {s : State} (h : JobInv s) (hbusy : s.busy = true) : Held s.trace := by
  cases hs : s.state with
  | idle | aborted => simp [State.busy, hs] at hbusy
  | configuring => exact h.configuring hs ▸ held_configTrace _ _
  | ready =>
    obtain ⟨-, -, -, -, -, htrace⟩ := h.ready hs
    exact htrace ▸ held_configTrace _ _
  | sending =>
    obtain ⟨-, -, -, ⟨reads, hreads, -, htrace⟩, -⟩ := h.sending hs
    exact held_of_loop hreads htrace

/-- R157: an aborted job could not acquire the device, or has released it. -/
theorem ended_of_aborted {s : State} (h : JobInv s) (hs : s.state = .aborted) :
    (s.trace = [.acquire .err] ∧ s.result = some (.err .deviceUnavailable)) ∨
      ∃ before, s.trace = before ++ [.release] ∧ Held before := by
  obtain ⟨e, -, hresult, ⟨rfl, -, htrace⟩ | ⟨event, hevent, htrace⟩⟩ := h.failed hs
  · exact .inl ⟨htrace, hresult⟩
  · refine .inr ⟨configTrace s.params s.step.val ++ [event], by simp [htrace], (held_configTrace _ _).append ?_⟩
    simp [isInner_of_failedAction hevent]

/-- R156: a finished job has released the device. -/
theorem ended_of_finished {s : State} (h : JobInv s) (hresult : s.result = some .ok) :
    ∃ before, s.trace = before ++ [.release] ∧ Held before := by
  obtain ⟨-, -, -, ⟨reads, hreads, -, htrace⟩, -⟩ := h.finished hresult
  obtain ⟨before, last, heq, hbefore, hlast⟩ := List.map_eq_append_iff.mp htrace
  obtain ⟨e, rfl, he⟩ := List.map_eq_singleton_iff.mp hlast
  refine ⟨before, ?_, held_of_loop hreads hbefore⟩
  cases e <;> cases he
  exact heq

/-- R141: once a job has ended, TRACE ends in its RELEASE, or is the failed ACQUIRE alone. -/
theorem ended_of_not_busy {s : State} (h : JobInv s) (hbusy : s.busy = false) :
    s.trace = [] ∨ (s.trace = [.acquire .err] ∧ s.result = some (.err .deviceUnavailable)) ∨
      ∃ before, s.trace = before ++ [.release] ∧ Held before := by
  cases hs : s.state with
  | idle =>
    obtain ⟨-, ⟨-, hempty⟩ | hresult⟩ := h.idle hs
    · exact .inl hempty
    · exact .inr (.inr (ended_of_finished h hresult))
  | aborted => exact .inr (ended_of_aborted h hs)
  | configuring | ready | sending => simp [State.busy, hs] at hbusy

/-- R17: OWNED is true exactly while a job runs. -/
theorem owned_eq_busy {s : State} (h : JobInv s) : s.owned = s.busy := by
  cases hbusy : s.busy with
  | true => exact (running_of_jobInv h hbusy).held
  | false =>
    refine h.released ?_
    cases hs : s.state with
    | idle => exact .inl rfl
    | aborted => exact .inr rfl
    | configuring | ready | sending => simp [State.busy, hs] at hbusy

/-- R140: a TRACE begins with its only ACQUIRE. -/
theorem one_acquire {s : State} (h : JobInv s) (hne : s.trace ≠ []) :
    s.trace.countP isAcquire = 1 ∧ ∃ a, s.trace.head? = some (.acquire a) := by
  cases hbusy : s.busy with
  | true => exact ⟨(held_of_busy h hbusy).countP_isAcquire, _, (held_of_busy h hbusy).head?⟩
  | false =>
    rcases ended_of_not_busy h hbusy with hempty | ⟨htrace, -⟩ | ⟨before, htrace, hheld⟩
    · exact absurd hempty hne
    · exact ⟨by rw [htrace]; rfl, _, by rw [htrace]; rfl⟩
    · refine ⟨?_, .ok, ?_⟩
      · rw [htrace, List.countP_append, hheld.countP_isAcquire]
        rfl
      · obtain ⟨inner, rfl, -⟩ := hheld
        rw [htrace]
        rfl

/-! ### The steps that start and that end a job -/

/-- R149: the step that starts a job is an accepted RUN, whose ACQUIRE is answered Ok. -/
theorem trace_of_start {s t : State} (hinv : JobInv s) (h : step s = .next t) (hs : s.busy = false)
    (ht : t.busy = true) : t.trace = [.acquire .ok] := by
  obtain ⟨-, ⟨-, hact⟩ | ⟨r, hr, hreq⟩⟩ := step_eq_next_iff.mp h
  · rcases action_cases hact with ⟨-, rfl⟩ | ⟨hstate, -⟩ | ⟨hstate, -⟩ | ⟨hstate, -⟩
    · exact absurd (hs.symm.trans ht) (by decide)
    all_goals simp [State.busy, hstate] at hs
  · obtain rfl | ⟨w, rfl⟩ := hinv.port r hr
    · obtain ⟨-, rfl⟩ := stepRequest_reset hreq
      cases ht
    · rcases stepRequest_command { s with port := none } w with ⟨-, diag, dry, heq⟩ | heq
      · obtain rfl := Host.Outcome.next.inj (heq.symm.trans hreq)
        cases hok : (State.clearJob { s with port := none } diag dry).nextDraw.ok
        · rw [startJob_of_err hok] at ht
          cases ht
        · rw [startJob_of_ok hok]
          simp [nextAnswer_of_ok hok]
      · obtain rfl := Host.Outcome.next.inj (heq.symm.trans hreq)
        exact absurd (hs.symm.trans ht) (by decide)

/-- R141: the step that ends a job adds its events and one RELEASE, which is the last. -/
theorem trace_of_end {s t : State} (hinv : JobInv s) (h : step s = .next t) (hs : s.busy = true)
    (ht : t.busy = false) : ∃ more, t.trace = s.trace ++ more ++ [.release] ∧ .release ∉ s.trace ++ more := by
  have hheld := held_of_busy hinv hs
  have hprefix := traceOnlyGrows s t hinv.port hs h
  rcases ended_of_not_busy (jobInvariantKept s t hinv h) ht with hempty | ⟨htrace, -⟩ | ⟨before, htrace, hbefore⟩
  · exact absurd (List.prefix_nil.mp (hempty ▸ hprefix)) hheld.ne_nil
  · obtain ⟨inner, heq, -⟩ := hheld
    rw [heq, htrace, List.cons_prefix_cons] at hprefix
    exact absurd hprefix.1 (by decide)
  · rw [htrace] at hprefix
    rcases List.prefix_concat_iff.mp hprefix with heq | ⟨more, rfl⟩
    · exact absurd (heq ▸ by simp) hheld.release_not_mem
    · exact ⟨more, htrace, hbefore.release_not_mem⟩

/-- Settles O60: the invariant gives TRACE its shape before and after the step. -/
theorem everyJobReleasesOnce : Obligations.EveryJobReleasesOnce := by
  intro s t hinv h
  have hinv' := jobInvariantKept s t hinv h
  refine ⟨owned_eq_busy hinv', one_acquire hinv', fun ht => ?_, trace_of_start hinv h, trace_of_end hinv h,
    fun ht => ?_⟩
  · exact ⟨(held_of_busy hinv' ht).ne_nil, (held_of_busy hinv' ht).release_not_mem⟩
  · refine (ended_of_not_busy hinv' ht).imp_right (Or.imp_right ?_)
    rintro ⟨before, htrace, hheld⟩
    refine ⟨before, htrace, hheld.release_not_mem, ?_⟩
    rw [htrace, List.head?_append, hheld.head?]
    rfl

end Sys2Proof
end

section
/-!
PROOFS. Whole jobs (spec/45_transmission_loop.md R148, R149, R155 to R159): the loop to its end, and a bound on the
steps of every job.
-/

namespace Sys2Proof

open Machine Safety Laws

/-! ### Runs of steps -/

theorem after_succ_iff {s t : State} {n : Nat} : After s (n + 1) t ↔ ∃ u, step s = .next u ∧ After u n t := by
  simp only [After, Host.Core.run, show core.step s = step s from rfl]
  cases step s <;> simp

theorem after_succ {s u t : State} {n : Nat} (h : step s = .next u) (h' : After u n t) : After s (n + 1) t :=
  after_succ_iff.mpr ⟨u, h, h'⟩

theorem after_add {s u t : State} {m n : Nat} (h : After s m u) (h' : After u n t) : After s (m + n) t := by
  induction m generalizing s with
  | zero =>
    obtain rfl := Host.Outcome.next.inj h
    rwa [Nat.zero_add]
  | succ m ih =>
    obtain ⟨v, hstep, hrest⟩ := after_succ_iff.mp h
    rw [Nat.succ_add]
    exact after_succ hstep (ih hrest)

/-- What every step keeps, every run keeps. -/
theorem after_keeps {P : State → Prop} (hkeep : ∀ s t, P s → step s = .next t → P t) {s t : State} {n : Nat}
    (h : After s n t) (hs : P s) : P t := by
  induction n generalizing s with
  | zero => exact Host.Outcome.next.inj h ▸ hs
  | succ n ih =>
    obtain ⟨u, hstep, hrest⟩ := after_succ_iff.mp h
    exact ih hrest (hkeep s u hs hstep)

theorem after_params {s t : State} {n : Nat} (h : After s n t) : t.params = s.params :=
  after_keeps (P := fun u => u.params = s.params)
    (fun u v hu hstep => (parametersNeverChange u v hstep).1.trans hu) h rfl

/-! ### The loop (R155, R156) -/

/-- A TRACE with every SEND removed (R160). -/
def withoutSends (es : List Event) : List Event :=
  es.filter (fun e => !isSend e)

@[simp] theorem withoutSends_append (xs ys : List Event) :
    withoutSends (xs ++ ys) = withoutSends xs ++ withoutSends ys :=
  List.filter_append ..

theorem withoutSends_of_no_send {es : List Event} (h : ∀ e ∈ es, isSend e = false) : withoutSends es = es :=
  List.filter_eq_self.mpr fun e he => by simp [h e he]

@[simp] theorem withoutSends_sendEvents (s : State) : withoutSends (sendEvents s) = [] := by
  unfold sendEvents
  split <;> rfl

@[simp] theorem withoutSends_sleepEvents (p : Params) (k : Nat) : withoutSends (sleepEvents p k) = sleepEvents p k :=
  withoutSends_of_no_send (sleepEvents_no_send p k)

/-- The SLEEPs of `n` iterations from iteration `k` on (R155). -/
def loopSleeps (p : Params) (k n : Nat) : List Event :=
  (List.range' k n).flatMap (sleepEvents p)

theorem loopSleeps_succ (p : Params) (k n : Nat) :
    loopSleeps p k (n + 1) = sleepEvents p k ++ loopSleeps p (k + 1) n := by
  rw [loopSleeps, List.range'_succ, List.flatMap_cons, loopSleeps]

/-- R160: the ticks from iteration `k` to the last. -/
theorem sum_loopSleeps (p : Params) {k n : Nat} (h : k + n = p.repeatCount.toNat) :
    ((loopSleeps p k (n + 1)).map sleepTicks).sum =
      (n + if p.trailingDelay then 1 else 0) * p.interPacketDelay := by
  induction n generalizing k with
  | zero =>
    cases htrail : p.trailingDelay <;> simp [loopSleeps, sleepEvents, htrail, sleepTicks, ← h]
  | succ n ih =>
    have hmore : k < p.repeatCount.toNat := by omega
    rw [loopSleeps_succ, List.map_append, List.sum_append, ih (by omega), Nat.add_right_comm, Nat.succ_mul]
    simp [sleepEvents, hmore, sleepTicks, Nat.add_comm]

/-- `t` is where the loop ends that has `n` iterations to go in `s` (R155, R156). -/
structure LoopEnds (s t : State) (n : Nat) : Prop where
  idle : t.state = .idle
  result : t.result = some .ok
  released : t.owned = false
  last : t.k = s.params.repeatCount
  dry : t.dry = s.dry
  calls : t.sendCalls = s.sendCalls + if s.dry then 0 else n
  slept : t.elapsed = s.elapsed + ((loopSleeps s.params s.k.toNat n).map sleepTicks).sum
  silent : withoutSends t.trace = withoutSends s.trace ++ loopSleeps s.params s.k.toNat n ++ [.release]

/-- R156: the last iteration. -/
theorem sendAction_loopEnds {s : State} (h : s.k.toNat = s.params.repeatCount.toNat) :
    LoopEnds s s.sendAction 1 := by
  obtain ⟨dev, answers, drawn, heq⟩ := sendAction_eq s
  have hlast : ¬ s.k.toNat < s.params.repeatCount.toNat := by omega
  simp only [if_neg hlast, countP_isSend_sendEvents] at heq
  have hrelease : withoutSends [.release] = [.release] := rfl
  rw [heq]
  refine ⟨rfl, rfl, rfl, BitVec.eq_of_toNat_eq h, rfl, rfl, ?_, ?_⟩ <;>
    simp [loopSleeps, hrelease]

/-- R155: an iteration that is not the last, and then the others. -/
theorem LoopEnds.iteration {s t : State} {n : Nat} (hlt : s.k.toNat < s.params.repeatCount.toNat)
    (hsucc : s.sendAction.k.toNat = s.k.toNat + 1) (h : LoopEnds s.sendAction t n) : LoopEnds s t (n + 1) := by
  obtain ⟨dev, answers, drawn, heq⟩ := sendAction_eq s
  simp only [if_pos hlt, List.append_nil, countP_isSend_sendEvents] at heq
  obtain ⟨hidle, hresult, hreleased, hlast, hdry, hcalls, hslept, hsilent⟩ := h
  rw [hsucc] at hslept hsilent
  rw [heq] at hlast hdry hcalls hslept hsilent
  refine ⟨hidle, hresult, hreleased, hlast, hdry, ?_, ?_, ?_⟩
  · rw [hcalls]
    dsimp only
    split <;> omega
  · rw [hslept, loopSleeps_succ, List.map_append, List.sum_append]
    exact Nat.add_assoc ..
  · simp [hsilent, loopSleeps_succ]

/-- R155, R159: from Sending(k) the loop runs to its end, whatever SEND answers. -/
theorem exists_loopEnds {s : State} {n : Nat} (hwf : s.params.wf = true) (hport : s.port = none)
    (hs : s.state = .sending) (hone : 1 ≤ s.k.toNat) (hn : s.k.toNat + n = s.params.repeatCount.toNat) :
    ∃ t, After s (n + 1) t ∧ LoopEnds s t (n + 1) := by
  induction n generalizing s with
  | zero => exact ⟨_, after_succ (step_of_sending hwf hport hs hone (by omega)) rfl, sendAction_loopEnds hn⟩
  | succ n ih =>
    have hlt : s.k.toNat < s.params.repeatCount.toNat := by omega
    have hstep := step_of_sending hwf hport hs hone hlt.le
    obtain ⟨dev, answers, drawn, heq⟩ := sendAction_eq s
    simp only [if_pos hlt] at heq
    have hsucc : s.sendAction.k.toNat = s.k.toNat + 1 := by
      rw [heq]
      exact BitVec.toNat_add_of_lt (by simp; omega)
    have hparams : s.sendAction.params = s.params := by rw [heq]
    obtain ⟨t, hafter, hends⟩ := ih (s := s.sendAction) (hparams ▸ hwf) (by rw [heq]; exact hport)
      (by rw [heq]; exact hs) (by omega) (by rw [hparams]; omega)
    exact ⟨t, after_succ hstep hafter, hends.iteration hlt hsucc⟩

/-- Settles O44: the iterations from k to the last, counted. -/
theorem loopRunsToCompletion : Obligations.LoopRunsToCompletion := by
  intro s hwf hport hs hone hle
  have hn : s.k.toNat + (s.params.repeatCount.toNat - s.k.toNat) = s.params.repeatCount.toNat := by omega
  obtain ⟨t, hafter, hends⟩ := exists_loopEnds hwf hport hs hone hn
  exact ⟨t, hafter, hends.idle, hends.result, hends.released, hends.last, hends.calls,
    hends.slept.trans (by rw [sum_loopSleeps s.params hn])⟩

/-! ### A bound on the steps of a job (R159) -/

/-- At most how many steps a job has to go (R159). -/
def remaining (s : State) : Nat :=
  match s.state with
  | .idle => 0
  | .aborted => 0
  | .configuring => 18 - s.step.val + s.params.repeatCount.toNat
  | .ready => 1 + s.params.repeatCount.toNat
  | .sending => s.params.repeatCount.toNat - s.k.toNat + 1

/-- Each action of a job brings it nearer its end. -/
theorem remaining_configAction {s : State} (hwf : s.params.wf = true) (hs : s.state = .configuring) :
    remaining s.configAction < remaining s := by
  have hbound := s.step.isLt
  rcases configAction_cases hwf with
    ⟨h16, heq⟩ | ⟨hlt, u, event, hu, heq, -⟩ | ⟨u, event, e, -, heq, -⟩ <;> rw [heq]
  · simp [remaining, hs, h16]
  · obtain ⟨answers, drawn, dev, rfl⟩ := exists_eq_of_onlyTraced hu
    simp [remaining, hs, advanceStep_step_val, hlt]
    omega
  · simp [remaining, hs]
    omega

theorem remaining_readyAction {s : State} (hs : s.state = .ready) : remaining s.readyAction < remaining s := by
  obtain ⟨_, _, _, _, _, -, -, heq⟩ := readyInspect_eq s
  rw [State.readyAction, heq]
  split
  · simp [remaining, hs]
  · next hpos =>
    have hone : s.params.repeatCount.toNat ≠ 0 := fun hzero => hpos (BitVec.eq_of_toNat_eq hzero)
    simp [remaining, hs]
    omega

theorem remaining_sendAction {s : State} (hs : s.state = .sending) : remaining s.sendAction < remaining s := by
  obtain ⟨dev, answers, drawn, heq⟩ := sendAction_eq s
  rw [heq]
  by_cases hlt : s.k.toNat < s.params.repeatCount.toNat
  · have hsucc : (s.k + 1#32).toNat = s.k.toNat + 1 := BitVec.toNat_add_of_lt (by simp; omega)
    simp only [remaining, hs, hlt, if_true, hsucc]
    omega
  · simp [remaining, hs, hlt]

theorem remaining_action {s t : State} (hwf : s.params.wf = true) (hbusy : s.busy = true) (h : s.action = .next t) :
    remaining t < remaining s := by
  rcases action_cases h with ⟨hs, -⟩ | ⟨hs, rfl⟩ | ⟨hs, rfl⟩ | ⟨hs, -, rfl⟩
  · rcases hs with hs | hs <;> simp [State.busy, hs] at hbusy
  · exact remaining_configAction hwf hs
  · exact remaining_readyAction hs
  · exact remaining_sendAction hs

/-- R159: a job under way ends. -/
theorem exists_jobEnd {s : State} (hinv : JobInv s) (hport : s.port = none) (htrace : s.trace ≠ []) :
    ∃ n t, n ≤ remaining s ∧ After s n t ∧ JobInv t ∧ t.port = none ∧ t.trace ≠ [] ∧ t.busy = false := by
  induction hm : remaining s using Nat.strong_induction_on generalizing s with
  | _ m ih =>
    cases hbusy : s.busy with
    | false => exact ⟨0, s, Nat.zero_le _, rfl, hinv, hport, htrace, hbusy⟩
    | true =>
      obtain ⟨u, hstep⟩ := blockNeverStops s hinv (by simp [hport])
      have hless : remaining u < m :=
        hm ▸ remaining_action hinv.wf hbusy (step_eq_action hinv.wf hport ▸ hstep)
      have hgrown : u.trace ≠ [] := fun hnil =>
        htrace (List.prefix_nil.mp (hnil ▸ traceOnlyGrows s u hinv.port hbusy hstep))
      obtain ⟨-, -, hport'⟩ := parametersNeverChange s u hstep
      obtain ⟨n, t, hn, hafter, hrest⟩ :=
        ih _ hless (jobInvariantKept s u hinv hstep) hport' hgrown rfl
      exact ⟨n + 1, t, by omega, after_succ hstep hafter, hrest⟩

/-! ### The start of a job (R148, R149) -/

/-- The state after an accepted RUN, the port emptied (R148). -/
def started (s : State) (diag dry : Bool) : State :=
  (State.clearJob { s with port := none } diag dry).startJob

theorem started_params (s : State) (diag dry : Bool) : (started s diag dry).params = s.params :=
  (startJob_continues _).params

theorem started_port (s : State) (diag dry : Bool) : (started s diag dry).port = none :=
  (startJob_continues _).port

theorem step_run {s : State} {diag dry : Bool} (hwf : s.params.wf = true) (hidle : s.state = .idle)
    (hport : s.port = some (.command (commandWord diag dry))) : step s = .next (started s diag dry) := by
  have hdecode : decodeRequest (.command (commandWord diag dry)) = .ok (.run diag dry) :=
    EncodeRoundTrip.run diag dry rfl
  refine step_eq_next_iff.mpr ⟨hwf, .inr ⟨_, hport, ?_⟩⟩
  rw [State.stepRequest, if_neg nofun, hdecode]
  exact (execRun_eq diag dry _).trans (by rw [if_pos hidle]; rfl)

/-- The invariant holds once a job has been started, whatever an earlier one left. -/
theorem jobInv_started {s : State} (hwf : s.params.wf = true) (hidle : s.state = .idle) (hfree : s.owned = false)
    (diag dry : Bool) : JobInv (started s diag dry) :=
  jobInv_startJob (s := State.clearJob { s with port := none } diag dry)
    (jobInv_of_cleared hwf nofun hidle hfree rfl rfl rfl rfl) hidle diag dry

/-- R149: the job starts in Configuring or is aborted, and has traced its ACQUIRE. -/
theorem started_trace_ne_nil (s : State) (diag dry : Bool) : (started s diag dry).trace ≠ [] := by
  unfold started
  cases hok : (State.clearJob { s with port := none } diag dry).nextDraw.ok
  · rw [startJob_of_err hok]
    simp
  · rw [startJob_of_ok hok]
    simp

theorem remaining_started_le (s : State) (diag dry : Bool) :
    remaining (started s diag dry) ≤ 18 + s.params.repeatCount.toNat := by
  unfold started
  cases hok : (State.clearJob { s with port := none } diag dry).nextDraw.ok
  · rw [startJob_of_err hok]
    exact Nat.zero_le _
  · rw [startJob_of_ok hok]
    exact Nat.le_refl _

/-- R67: the words of RUN by their numbers. -/
theorem exists_commandWord {w : Byte} (hlow : 0x10 ≤ w.toNat) (hhigh : w.toNat ≤ 0x13) :
    ∃ diag dry, w = commandWord diag dry := by
  have hcases : w.toNat = 0x10 ∨ w.toNat = 0x11 ∨ w.toNat = 0x12 ∨ w.toNat = 0x13 := by omega
  rcases hcases with h | h | h | h
  · exact ⟨false, false, BitVec.eq_of_toNat_eq h⟩
  · exact ⟨false, true, BitVec.eq_of_toNat_eq h⟩
  · exact ⟨true, false, BitVec.eq_of_toNat_eq h⟩
  · exact ⟨true, true, BitVec.eq_of_toNat_eq h⟩

/-- Settles O45: RUN's step, and a job under way that ends; the invariant says how. -/
theorem everyJobEnds : Obligations.EveryJobEnds := by
  intro s w hwf hidle hfree hport hlow hhigh
  obtain ⟨diag, dry, rfl⟩ := exists_commandWord hlow hhigh
  obtain ⟨n, t, hn, hafter, hinv, hport', htrace, hbusy⟩ :=
    exists_jobEnd (jobInv_started hwf hidle hfree diag dry) (started_port s diag dry) (started_trace_ne_nil s diag dry)
  have hbound := remaining_started_le s diag dry
  refine ⟨n + 1, t, by omega, by omega, after_succ (step_run hwf hidle hport) hafter,
    (owned_eq_busy hinv).trans hbusy, hport', ?_⟩
  cases hs : t.state with
  | idle =>
    obtain ⟨-, ⟨-, hempty⟩ | hresult⟩ := hinv.idle hs
    · exact absurd hempty htrace
    · exact .inl ⟨rfl, hresult⟩
  | aborted =>
    obtain ⟨e, herr, hresult, -⟩ := hinv.failed hs
    obtain ⟨-, hcalls, -⟩ := hinv.quiet (.inr hs)
    exact .inr ⟨rfl, e, hresult, herr, hcalls⟩
  | configuring | ready | sending => simp [State.busy, hs] at hbusy

end Sys2Proof
end

section
/-!
PROOFS. A dry run beside a live one (spec/45_transmission_loop.md R160, R161): until the loop the two differ in DRY
alone, and the loop's SLEEPs are the same in both.
-/

namespace Sys2Proof

open Machine Safety Laws

/-! ### The same state with DRY set -/

/-- `s` as the state of a dry run (R14). -/
def asDry (s : State) : State :=
  { s with dry := true }

/-! The environment's answers and the control point do not read DRY (R52). -/

@[simp] theorem asDry_nextDraw (s : State) : (asDry s).nextDraw = s.nextDraw := rfl

@[simp] theorem asDry_diag (s : State) : (asDry s).diag = s.diag := rfl

theorem deviceAfterAcquire_asDry (s : State) : (asDry s).deviceAfterAcquire = asDry s.deviceAfterAcquire := by
  cases henv : s.env with
  | ideal =>
    simp only [State.deviceAfterAcquire, show (asDry s).env = .ideal from henv, henv, asDry_nextDraw]
    exact (apply_ite asDry (s.nextDraw.byte = 0#8) s s.forgetDevice).symm
  | unconstrained => simp only [State.deviceAfterAcquire, show (asDry s).env = .unconstrained from henv, henv]

/-- Nor does the start of a job (R149). -/
theorem startJob_asDry {s : State} (hok : s.nextDraw.ok = true) : (asDry s).startJob = asDry s.startJob := by
  rw [startJob_of_ok hok, startJob_of_ok (s := asDry s) hok, State.acquireTxn, deviceAfterAcquire_asDry]
  rfl

/-- Nor does the inspector (R110, R153). -/
theorem inspectLoop_asDry (ls : List Label) (seen : List (Label × Byte)) (s : State) :
    State.inspectLoop ls seen (asDry s) = asDry (State.inspectLoop ls seen s) := by
  induction ls generalizing seen s with
  | nil => rfl
  | cons l ls ih =>
    cases hanswer : answerAt s 0 l with
    | ioError =>
      rw [inspectLoop_cons_ioError hanswer, inspectLoop_cons_ioError (s := asDry s) hanswer]
      rfl
    | ok raw =>
      rw [inspectLoop_cons_ok (r := (l, raw)) hanswer, inspectLoop_cons_ok (s := asDry s) (r := (l, raw)) hanswer]
      exact ih ((l, raw) :: seen) (afterRead s seen (l, raw))

theorem readyInspect_asDry (s : State) : (asDry s).readyInspect = asDry s.readyInspect := by
  cases hdiag : s.diag with
  | true =>
    simp only [State.readyInspect, asDry_diag, hdiag, if_true]
    exact inspectLoop_asDry _ [] { s with report := [], inspectErr := none }
  | false => simp [State.readyInspect, hdiag]

/-! ### Configuring, every answer Ok (R150 to R152) -/

/-- `t` is `s` after an action of Configuring that was answered Ok: STEP has moved on, one answer is used. -/
structure Advanced (s t : State) : Prop where
  params : t.params = s.params
  port : t.port = s.port
  state : t.state = s.state
  dry : t.dry = s.dry
  step : t.step.val = s.step.val + 1
  draws : ∀ i, drawAt t i = drawAt s (i + 1)

theorem advanceStep_advanced {s u : State} {events : List Event} (h : OnlyTraced s u events) (hlt : s.step.val < 16)
    (hdraws : ∀ i, drawAt u i = drawAt s (i + 1)) : Advanced s u.advanceStep := by
  obtain ⟨answers, drawn, dev, rfl⟩ := exists_eq_of_onlyTraced h
  exact ⟨rfl, rfl, rfl, rfl, advanceStep_step_val hlt, hdraws⟩

/-- An action of Configuring answered Ok moves STEP on, in a live job and in a dry run alike. -/
theorem configAction_of_ok {s : State} (hwf : s.params.wf = true) (hlt : s.step.val < 16) (hok : s.nextDraw.ok = true) :
    Advanced s s.configAction ∧ (asDry s).configAction = asDry s.configAction := by
  rcases configStep_cases hwf with h | h | ⟨i, w, h, hw⟩ | h
  · have haction := configAction_setMode h
    have hdry := configAction_setMode (s := asDry s) h
    simp only [asDry_nextDraw, hok, if_true] at haction hdry
    rw [haction, hdry]
    exact ⟨advanceStep_advanced (setmodeTxn_onlyTraced s .standby) hlt (drawAt_setmodeTxn s _), rfl⟩
  · have haction := configAction_waitReady h
    have hdry := configAction_waitReady (s := asDry s) h
    simp only [asDry_nextDraw, hok, if_true] at haction hdry
    rw [haction, hdry]
    exact ⟨advanceStep_advanced (waitrdyTxn_onlyTraced s _) hlt (drawAt_waitrdyTxn s _), rfl⟩
  · have haction := configAction_write hwf h hw
    have hdry := configAction_write (s := asDry s) hwf h hw
    simp only [asDry_nextDraw, hok, if_true] at haction hdry
    rw [haction, hdry]
    exact ⟨advanceStep_advanced (wrregTxn_onlyTraced s _ _) hlt (drawAt_wrregTxn s _ _), rfl⟩
  · simp [h] at hlt

/-- Where a run from Configuring to Ready leads (R152), in a live job and in a dry run alike. -/
structure Configured (s t : State) (n : Nat) : Prop where
  live : After s n t
  dry : After (asDry s) n (asDry t)
  ready : t.state = .ready
  port : t.port = none
  kept : t.dry = s.dry

/-- R150 to R152: with every answer Ok Configuring comes to Ready. -/
theorem exists_configured {s : State} {n : Nat} (hwf : s.params.wf = true) (hport : s.port = none)
    (hs : s.state = .configuring) (hn : s.step.val + n = 16) (hok : NextOk s n) :
    ∃ t, Configured s t (n + 1) := by
  have hlive := step_of_configuring hwf hport hs
  have hdry := step_of_configuring (s := asDry s) hwf hport hs
  induction n generalizing s with
  | zero =>
    have h16 : s.step = 16 := Fin.ext hn
    rw [configAction_ready h16] at hlive
    rw [configAction_ready (s := asDry s) h16] at hdry
    exact ⟨_, after_succ hlive rfl, after_succ hdry rfl, rfl, hport, rfl⟩
  | succ n ih =>
    have hfirst : s.nextDraw.ok = true := nextDraw_eq s ▸ hok 0 (by omega)
    obtain ⟨hdone, hsame⟩ := configAction_of_ok hwf (by omega) hfirst
    rw [hsame] at hdry
    have hwf' : s.configAction.params.wf = true := hdone.params ▸ hwf
    have hport' := hdone.port.trans hport
    have hs' := hdone.state.trans hs
    have hrest : NextOk s.configAction n := fun i hi => by
      rw [hdone.draws]
      exact hok (i + 1) (by omega)
    obtain ⟨t, hend⟩ := ih hwf' hport' hs' (by rw [hdone.step]; omega) hrest (step_of_configuring hwf' hport' hs')
      (step_of_configuring hwf' hport' hs')
    exact ⟨t, after_succ hlive hend.live, after_succ hdry hend.dry, hend.ready, hend.port, hend.kept.trans hdone.dry⟩

/-! ### From Ready to the end (R153 to R156) -/

/-- The end of a job that is in Ready: Idle and Ok, and TRACE without its SENDs. -/
structure FinishedFrom (s t : State) : Prop where
  result : t.result = some .ok
  dry : t.dry = s.dry
  silent : withoutSends t.trace =
    withoutSends s.readyInspect.trace ++ loopSleeps s.params 1 s.params.repeatCount.toNat ++ [.release]

/-- R153 to R156: a job in Ready finishes in 1 + REPEAT_COUNT steps. -/
theorem exists_finishedFrom {s : State} (hwf : s.params.wf = true) (hport : s.port = none) (hs : s.state = .ready) :
    ∃ t, After s (s.params.repeatCount.toNat + 1) t ∧ FinishedFrom s t := by
  have hstep := step_of_ready hwf hport hs
  obtain ⟨_, _, _, _, _, -, -, heq⟩ := readyInspect_eq s
  by_cases hzero : s.params.repeatCount = 0#32
  · rw [State.readyAction, if_pos hzero] at hstep
    rw [show s.params.repeatCount.toNat = 0 by simp [hzero]]
    refine ⟨_, after_succ hstep rfl, rfl, by rw [heq]; rfl, ?_⟩
    simp [hzero, loopSleeps]
    rfl
  · have hpos : s.params.repeatCount.toNat ≠ 0 := fun h => hzero (BitVec.eq_of_toNat_eq h)
    rw [State.readyAction, if_neg hzero] at hstep
    have hparams : s.readyInspect.params = s.params := by rw [heq]
    obtain ⟨t, hafter, hends⟩ :=
      exists_loopEnds (s := { s.readyInspect with k := 1#32, state := .sending })
        (n := s.params.repeatCount.toNat - 1) (hparams ▸ hwf) (by rw [heq]; exact hport) rfl (Nat.le_refl 1)
        (by rw [hparams]; simp; omega)
    rw [Nat.sub_add_cancel (by omega)] at hafter hends
    refine ⟨t, after_succ hstep hafter, hends.result, hends.dry.trans (by rw [heq]), hends.silent.trans ?_⟩
    rw [hparams]
    rfl

/-! ### Two jobs that differ in DRY -/

/-- R16, R160: a finished dry run has sent nothing. -/
theorem dry_trace_no_send {s : State} (h : JobInv s) (hacc : Accounting s) (hresult : s.result = some .ok)
    (hdry : s.dry = true) : withoutSends s.trace = s.trace := by
  obtain ⟨-, -, -, -, hcalls, -⟩ := h.finished hresult
  rw [hdry, if_pos rfl, hacc.1] at hcalls
  exact withoutSends_of_no_send fun e he => Bool.eq_false_iff.mpr (List.countP_eq_zero.mp hcalls e he)

theorem accounting_started (s : State) (diag dry : Bool) : Accounting (started s diag dry) :=
  (startJob_continues _).accounting ⟨rfl, rfl⟩

/-- R149: a job whose ACQUIRE is answered Ok is in Configuring. -/
theorem started_of_ok {s : State} (hok : s.nextDraw.ok = true) (diag dry : Bool) :
    started s diag dry =
      { (State.clearJob { s with port := none } diag dry).acquireTxn with state := .configuring, step := 0 } :=
  startJob_of_ok (s := State.clearJob { s with port := none } diag dry) hok

/-- R148: RUN's two words start jobs that differ in DRY alone. -/
theorem started_asDry {s : State} (hok : s.nextDraw.ok = true) (diag : Bool) :
    started s diag true = asDry (started s diag false) :=
  startJob_asDry (s := State.clearJob { s with port := none } diag false) hok

/-- R149 to R152: with 17 answers Ok the job comes to Ready. -/
theorem exists_configured_started {s : State} (hwf : s.params.wf = true) (hok : NextOk s 17) (diag : Bool) :
    ∃ t, Configured (started s diag false) t 17 := by
  have hfirst : s.nextDraw.ok = true := nextDraw_eq s ▸ hok 0 (by omega)
  have hstart := started_of_ok hfirst diag false
  have hrest : NextOk (started s diag false) 16 := fun i hi => by
    have hdraw := drawAt_acquireTxn (State.clearJob { s with port := none } diag false) i
    rw [hstart]
    exact (congrArg Draw.ok hdraw).trans (hok (i + 1) (by omega))
  exact exists_configured (started_params s diag false ▸ hwf) (started_port s diag false) (by rw [hstart])
    (by rw [hstart]; rfl) hrest

/-- The course of two such jobs: both end Ok, and their TRACEs agree but for the SENDs. -/
theorem exists_finished_pair {s : State} (hwf : s.params.wf = true) (hok : NextOk s 17) (diag : Bool) :
    ∃ live dry, After (started s diag false) (18 + s.params.repeatCount.toNat) live ∧
      After (started s diag true) (18 + s.params.repeatCount.toNat) dry ∧
      live.result = some .ok ∧ dry.result = some .ok ∧ live.dry = false ∧ dry.dry = true ∧
      withoutSends dry.trace = withoutSends live.trace := by
  have hfirst : s.nextDraw.ok = true := nextDraw_eq s ▸ hok 0 (by omega)
  obtain ⟨t, hready⟩ := exists_configured_started hwf hok diag
  have hparams : t.params = s.params := (after_params hready.live).trans (started_params s diag false)
  have hwf' : t.params.wf = true := hparams ▸ hwf
  obtain ⟨live, hlive, hliveEnd⟩ := exists_finishedFrom hwf' hready.port hready.ready
  obtain ⟨dry, hdry, hdryEnd⟩ := exists_finishedFrom (s := asDry t) hwf' hready.port hready.ready
  have hcount : 18 + s.params.repeatCount.toNat = 17 + (t.params.repeatCount.toNat + 1) := by rw [hparams]; omega
  rw [hcount, started_asDry hfirst]
  refine ⟨live, dry, after_add hready.live hlive, after_add hready.dry hdry, hliveEnd.result, hdryEnd.result,
    ?_, hdryEnd.dry, ?_⟩
  · rw [hliveEnd.dry, hready.kept, started_of_ok hfirst]
    rfl
  · rw [hdryEnd.silent, hliveEnd.silent, readyInspect_asDry]
    rfl

/-- Settles O46: the job invariant counts both jobs, and a dry run has no SEND to remove. -/
theorem dryRunEquivalence : Obligations.DryRunEquivalence := by
  intro s diag hwf hidle hfree hok
  obtain ⟨live, dry, hlive, hdry, hliveOk, hdryOk, hliveDry, hdryDry, hsilent⟩ :=
    exists_finished_pair hwf hok diag
  have hstep (isDry : Bool) : step { s with port := some (.command (commandWord diag isDry)) } =
      .next (started s diag isDry) := step_run (s := { s with port := some _ }) hwf hidle rfl
  have hinv (isDry : Bool) := jobInv_started hwf hidle hfree diag isDry
  have hliveInv := after_keeps jobInvariantKept hlive (hinv false)
  have hdryInv := after_keeps jobInvariantKept hdry (hinv true)
  have hliveParams : live.params = s.params := (after_params hlive).trans (started_params s diag false)
  have hdryParams : dry.params = s.params := (after_params hdry).trans (started_params s diag true)
  obtain ⟨hliveIdle, -, hliveK, -, hliveCalls, hliveElapsed, -⟩ := hliveInv.finished hliveOk
  obtain ⟨hdryIdle, -, hdryK, -, hdryCalls, hdryElapsed, -⟩ := hdryInv.finished hdryOk
  obtain ⟨-, -, hdryFail⟩ := hdryInv.sendFail
  rw [hliveParams] at hliveK hliveCalls hliveElapsed
  rw [hdryParams] at hdryK hdryElapsed
  have hdryCounted := after_keeps accountingKept hdry (accounting_started s diag true)
  have hnone := dry_trace_no_send hdryInv hdryCounted hdryOk hdryDry
  rw [show 19 + s.params.repeatCount.toNat = 18 + s.params.repeatCount.toNat + 1 by omega]
  exact ⟨live, dry, after_succ (hstep false) hlive, after_succ (hstep true) hdry, hliveIdle, hdryIdle, hliveOk, hdryOk,
    hliveK, hdryK, hliveElapsed, hdryElapsed, hliveCalls.trans (by simp [hliveDry]),
    hdryCalls.trans (by simp [hdryDry]), hdryFail hdryDry, hnone.symm.trans hsilent⟩

end Sys2Proof
end

section
/-!
PROOFS. Block reset between jobs (spec/70_reset_and_hazards.md R190), the registers of the device after a failed
configuration (R197), and that SEND is issued in Sending of a live job alone (R200, R155).
-/

namespace Sys2Proof

open Machine Safety Laws

/-! ### After a failed write or mode request (R197) -/

/-- R143, R197: a failed write of a byte, the ideal device held. -/
theorem memWrite_indeterminate {s : State} (howned : s.owned = true) (hideal : s.env = .ideal)
    (herr : s.nextDraw.ok = false) (l : Label) (a v : Byte) : Indeterminate s (s.memWrite l a v) := by
  rw [memWrite_eq, if_neg (by simp [herr])]
  exact abort_indeterminate (s := s.wrregTxn a v) howned hideal l

/-- R144, R197: a failed mode request, the ideal device held. -/
theorem setMode_indeterminate {s : State} (howned : s.owned = true) (hideal : s.env = .ideal)
    (herr : s.nextDraw.ok = false) (m : Mode) : Indeterminate s (s.setMode m) := by
  rw [setMode_of_err herr]
  exact abort_indeterminate (s := s.setmodeTxn m) howned hideal .opmode

/-- R150, R151, R197: a failed mode request or write of a job is what aborts it, and it leaves no register known. -/
theorem configAction_indeterminate {s : State} (hwf : s.params.wf = true) (howned : s.owned = true)
    (hideal : s.env = .ideal) (hwait : s.step.val ≠ 1) (hend : s.step.val ≠ 16) (herr : s.nextDraw.ok = false) :
    s.configAction.state = .aborted ∧ Indeterminate s s.configAction := by
  rcases configStep_cases hwf with h | h | ⟨i, w, h, hw⟩ | h
  · rw [configAction_setMode h, if_neg (by simp [herr])]
    exact ⟨rfl, abort_indeterminate (s := s.setmodeTxn .standby) howned hideal .opmode⟩
  · exact absurd h hwait
  · rw [configAction_write hwf h hw, if_neg (by simp [herr])]
    exact ⟨rfl, abort_indeterminate (s := s.wrregTxn (s.params.addrOf w.1) w.2) howned hideal w.1⟩
  · exact absurd (congrArg Fin.val h) hend

/-- R102, R197: a run of writes stopped by a failed one, the ideal device held. -/
theorem indeterminate_of_writesOrAborts {s t : State} {ws : List (Label × Byte)} (h : WritesOrAborts s t ws)
    (howned : s.owned = true) (hideal : s.env = .ideal) {j : Nat} (hj : j < ws.length) (hfail : FailsAt s j) :
    Indeterminate s t := by
  obtain ⟨-, hfailed⟩ := h
  obtain ⟨-, -, hheld, -⟩ := hfailed j ws[j] (List.getElem?_eq_getElem hj) hfail
  exact hheld howned hideal

/-- R91 to R99: the operations made of writes of CFGTABLE are the eight steps and APPLY. -/
theorem configStep_or_apply {p : Params} {i : Instr} {ws : List (Label × Byte)} (h : stepWrites p i = some ws) :
    i ∈ [Instr.cfgFreq, .cfgDatamodul, .cfgPacket, .cfgPaylen, .cfgFifo, .cfgPreambleSync, .cfgBitrate, .cfgPaOcp] ∨
      i = .apply := by
  obtain ⟨_, hentries, -⟩ := Option.map_eq_some_iff.mp h
  cases i <;> cases hentries <;> simp

/-- R91: APPLY writes all of CFGTABLE. -/
theorem stepWrites_apply {p : Params} (hwf : p.wf = true) : stepWrites p .apply = some (cfgWords p) :=
  congrArg some (List.take_of_length_le (cfgWords_length hwf).le)

/-- R91 to R102: but for what it returns, each of the eight steps, and APPLY, does its writes or aborts. -/
theorem exec_writesOrAborts {s : State} (hwf : s.params.wf = true) {i : Instr} {ws : List (Label × Byte)}
    (hws : stepWrites s.params i = some ws) :
    ∃ t r, exec i s = .next t ∧ WritesOrAborts s { t with ret := r } ws := by
  rcases configStep_or_apply hws with hi | rfl
  · obtain ⟨-, t, hexec, hwrites⟩ := configStepsWrite s i ws hwf hi hws
    exact ⟨t, t.ret, hexec, hwrites⟩
  · obtain rfl : cfgWords s.params = ws := Option.some.inj ((stepWrites_apply hwf).symm.trans hws)
    obtain ⟨-, -, t, hexec, hwrites, -⟩ := applyWritesCfgTable s hwf
    exact ⟨t, s.ret, hexec, hwrites⟩

/-- Settles O24: whichever action or operation failed, its abort path forgets the ideal device held. -/
theorem failedConfigurationIsIndeterminate : Obligations.FailedConfigurationIsIndeterminate := by
  intro s howned hideal
  rw [← nextDraw_eq]
  refine ⟨fun hwf hport hs hwait hend herr => ?_, fun herr => ⟨fun a v => ?_, fun m => ?_, fun i w hword => ?_⟩,
    fun hwf i ws j hws hj hfail => ?_⟩
  · exact ⟨_, step_of_configuring hwf hport hs, configAction_indeterminate hwf howned hideal hwait hend herr⟩
  · exact ⟨_, rfl, memWrite_indeterminate howned hideal herr _ a v⟩
  · exact ⟨_, rfl, setMode_indeterminate howned hideal herr m⟩
  · exact ⟨_, exec_of_wordOf hword s, memWrite_indeterminate howned hideal herr _ w.1 w.2⟩
  · obtain ⟨t, _, hexec, hwrites⟩ := exec_writesOrAborts hwf hws
    have hforgotten := indeterminate_of_writesOrAborts hwrites howned hideal hj hfail
    exact ⟨t, hexec, hforgotten⟩

/-! ### Where SEND is issued (R155, R200) -/

/-- R149: the start of a job sends nothing. -/
theorem startJob_sendCalls (s : State) : s.startJob.sendCalls = s.sendCalls := by
  cases hok : s.nextDraw.ok
  · rw [startJob_of_err hok, abort_sendCalls, acquireTxn_sendCalls]
  · rw [startJob_of_ok hok, acquireTxn_sendCalls]

/-- R150 to R152: Configuring sends nothing. -/
theorem configAction_sendCalls {s : State} (hwf : s.params.wf = true) :
    s.configAction.sendCalls = s.sendCalls := by
  rcases configStep_cases hwf with h | h | ⟨i, w, h, hw⟩ | h
  · rw [configAction_setMode h]
    split <;> simp
  · rw [configAction_waitReady h]
    split <;> simp
  · rw [configAction_write hwf h hw]
    split <;> simp
  · rw [configAction_ready h]

/-- R153, R154: Ready sends nothing. -/
theorem readyAction_sendCalls (s : State) : s.readyAction.sendCalls = s.sendCalls := by
  obtain ⟨-, -, -, hcalls⟩ := readyInspect_kept s
  unfold State.readyAction
  split <;> exact hcalls

/-- R155: an iteration issues one SEND, and none in a dry run. -/
theorem sendAction_sendCalls (s : State) :
    s.sendAction.sendCalls = s.sendCalls + if s.dry then 0 else 1 := by
  obtain ⟨_, _, _, heq⟩ := sendAction_eq s
  rw [heq, ← countP_isSend_sendEvents]

/-- R155, R200: the one action that issues a SEND is the iteration of a live job. -/
theorem sending_of_action_sends {s t : State} (hwf : s.params.wf = true) (h : s.action = .next t)
    (hgrows : s.sendCalls < t.sendCalls) : s.state = .sending ∧ s.dry = false := by
  rcases action_cases h with ⟨-, rfl⟩ | ⟨-, rfl⟩ | ⟨-, rfl⟩ | ⟨hs, -, rfl⟩
  · exact absurd hgrows (lt_irrefl _)
  · exact absurd (configAction_sendCalls hwf) hgrows.ne'
  · exact absurd (readyAction_sendCalls s) hgrows.ne'
  · rw [sendAction_sendCalls] at hgrows
    refine ⟨hs, Bool.eq_false_iff.mpr fun hdry => ?_⟩
    simp [hdry] at hgrows

/-- R67, R148, R190: no request of the host issues a SEND. -/
theorem hostRequest_sendCalls_le {s t : State} {r : Request} (hr : r = .reset ∨ ∃ w, r = .command w)
    (h : s.stepRequest r = .next t) : t.sendCalls ≤ s.sendCalls := by
  obtain rfl | ⟨w, rfl⟩ := hr
  · obtain ⟨-, rfl⟩ := stepRequest_reset h
    exact Nat.zero_le _
  · rcases stepRequest_command s w with ⟨-, diag, dry, hrun⟩ | hrefused
    · obtain rfl := Host.Outcome.next.inj (hrun.symm.trans h)
      rw [startJob_sendCalls]
      exact Nat.zero_le _
    · obtain rfl := Host.Outcome.next.inj (hrefused.symm.trans h)
      exact le_rfl

/-- Settles O54: a step is an action, of which one alone sends, or a request of the host. -/
theorem sendOnlyWhileSending : Obligations.SendOnlyWhileSending := by
  intro s t hhost hstep hgrows
  obtain ⟨hwf, ⟨-, hact⟩ | ⟨r, hr, hreq⟩⟩ := step_eq_next_iff.mp hstep
  · exact sending_of_action_sends hwf hact hgrows
  · exact absurd hgrows (hostRequest_sendCalls_le (hhost r hr) hreq).not_gt

/-! ### Block reset (R190, R36) -/

/-- R12, R159: a job runs in Configuring, Ready and Sending. -/
theorem busy_iff (s : State) : s.busy = true ↔ s.state = .configuring ∨ s.state = .ready ∨ s.state = .sending := by
  unfold State.busy
  cases s.state <;> simp

/-- R162, R190: a step with block reset at the port. -/
theorem step_of_reset {s : State} (hwf : s.params.wf = true) (hport : s.port = some .reset) :
    step s = if s.busy then .refused .resetDuringJob else .next s.blockReset := by
  rw [step, if_pos hwf, hport]
  rfl

/-- R36: block reset leaves no register of the device known. -/
theorem blockReset_indeterminate (s : State) : Indeterminate s s.blockReset :=
  ⟨rfl, fun _ => rfl⟩

/-- Settles O16: between jobs the step is block reset, and during one it has no meaning. -/
theorem blockResetValues : Obligations.BlockResetValues := by
  intro s hwf hport
  rw [step_of_reset hwf hport]
  refine ⟨fun hfree => ?_, fun hrunning => if_pos ((busy_iff s).mpr hrunning)⟩
  have hfree : ¬s.busy = true := by rcases hfree with h | h <;> simp [busy_iff, h]
  rw [if_neg hfree]
  exact ⟨_, rfl, rfl, rfl, rfl, rfl, rfl, rfl, rfl, rfl, rfl, rfl, rfl, rfl, rfl, rfl, rfl, rfl, rfl, rfl, rfl,
    blockReset_indeterminate s⟩

end Sys2Proof
end

section
/-!
PROOFS. How an operation at the port comes to run (spec/45_transmission_loop.md R162, log entry 2): a step hands over
what stands at the port, and a request that decodes is the operation it decodes to.
-/

namespace Sys2Proof

open Machine

/-- R162: with a request at the port a step takes it off the port and acts on it. -/
theorem step_of_request {s : State} {r : Request} (hwf : s.params.wf = true) (hport : s.port = some r) :
    step s = State.stepRequest { s with port := none } r := by
  rw [step, if_pos hwf, hport]

/-- Block reset decodes to no operation, so a request that decodes is acted on by `exec`. -/
theorem stepRequest_of_decode_ok {s : State} {r : Request} {i : Instr} (h : decodeRequest r = .ok i) :
    s.stepRequest r = exec i s := by
  have hr : r ≠ .reset := by rintro rfl; cases h
  rw [State.stepRequest, if_neg hr, h]

/-- A table word is the operation that the request it is laid out as decodes to. -/
theorem decodeTableWord_eq_some_iff {nbits w : Nat} {i : Instr} :
    decodeTableWord nbits w = some i ↔ decodeRequest (requestOfTableWord nbits w) = .ok i := by
  unfold decodeTableWord
  cases decodeRequest (requestOfTableWord nbits w) <;> simp

/-- R162: with a request at the port that decodes, a step runs its operation, the port emptied. -/
theorem step_of_decode_ok {s : State} {r : Request} {i : Instr} (hwf : s.params.wf = true) (hport : s.port = some r)
    (hdecode : decodeRequest r = .ok i) : step s = exec i { s with port := none } :=
  (step_of_request hwf hport).trans (stepRequest_of_decode_ok hdecode)

/-- Settles O14: a table word is run as the request that `withFetchWord` puts at the port. -/
theorem stepRunsPortOperation : Obligations.StepRunsPortOperation := fun s _ hwf =>
  ⟨fun _ hport hdecode => step_of_decode_ok hwf hport hdecode,
    fun nbits w hword =>
      step_of_decode_ok (s := s.withFetchWord nbits w) hwf rfl (decodeTableWord_eq_some_iff.mp hword)⟩

end Sys2Proof
end
